-- ==== Sys2Proof/Word.lean ====
section
/-! DEFINITION. Word types of the block and the one piece of plain arithmetic the spec's notation uses (00_scope R12, R13). -/

namespace Sys2Proof

/-- A host data word: WDATA and RDATA (30_encoding R140). -/
abbrev Word := BitVec 32

/-- A 16-bit register, counter or accumulator (10_state R37, R45, R48). -/
abbrev Half := BitVec 16

/-- A byte of the frame buffer, of the LUT or of the sample output (10_state R52, R53, R56). -/
abbrev Byte := BitVec 8

/-- A byte offset in the register window (30_encoding R144). -/
abbrev Offset := BitVec 12

/-- `ceil_div(a, b)` of 00_scope R13, for b > 0. -/
def ceilDiv (a b : Nat) : Nat := (a + b - 1) / b

end Sys2Proof
end

