-- ==== Sys2Proof/Config.lean ====
section
/-! DEFINITION. The block's parameters (00_scope R10, R11), the values this spec takes, and the free values the spec leaves open. -/

namespace Sys2Proof

/-- The parameters a model takes as arguments (the starred rows of 00_scope R10, with BODY_MIN of D6).
That DMARK and DSPACE lie in 0..65535 and each LUT entry in 0..255 (R11) is in their types. -/
structure Params where
  /-- Samples per bit. -/
  spb : Nat
  /-- Phase increment of the mark tone. -/
  dmark : Half
  /-- Phase increment of the space tone. -/
  dspace : Half
  /-- The sine table (43_afsk R283). -/
  lut : List Byte
  /-- The shortest legal body (D6). -/
  bodyMin : Nat
  /-- The length of the frame buffer (D5). -/
  bodyMax : Nat
  /-- Where the register window sits in the host's address map (20_memory R101). -/
  base : Nat
  deriving DecidableEq, Repr

/-- The constraints of 00_scope R11 and 20_memory R101; a parameter set that fails one describes no block of the
spec (log 17). -/
abbrev Params.wf (P : Params) : Prop :=
  1 ≤ P.spb ∧ P.spb ≤ 127 ∧ P.lut.length = 256 ∧ P.bodyMin ≤ P.bodyMax ∧ P.bodyMax ≤ 511 ∧ P.base % 0x1000 = 0

namespace Config

/-- BAUD (00_scope R10). -/
def baud : Nat := 1200

/-- F_MARK and F_SPACE in hertz (00_scope R10). -/
def fMark : Nat := 1200
def fSpace : Nat := 2200

/-- S, the sample rate for a given number of samples per bit (43_afsk R280). -/
def sampleRate (spb : Nat) : Nat := baud * spb

/-- `floor(freq * 2^16 / S + 1/2)`, the phase increment of a tone, rounded half up (43_afsk R280). -/
def phaseIncrement (freq spb : Nat) : Nat := (2 * freq * 65536 + sampleRate spb) / (2 * sampleRate spb)

/-- The legal range of PREAMBLE_MS at SEND (44_ptt_sequencer R313). -/
def preambleMin : Nat := 100
def preambleMax : Nat := 1000

/-- The legal range of TAIL_MS at SEND (44_ptt_sequencer R313). -/
def tailMin : Nat := 10
def tailMax : Nat := 500

/-- The 256 LUT entries, row by row as 43_afsk R283 lists them. -/
def lutTable : List Byte :=
  (
  [127, 130, 133, 136, 139, 143, 146, 149, 152, 155, 158, 161, 164, 167, 170, 173]
  ++ [176, 178, 181, 184, 187, 190, 192, 195, 198, 200, 203, 205, 208, 210, 212, 215]
  ++ [217, 219, 221, 223, 225, 227, 229, 231, 233, 234, 236, 238, 239, 240, 242, 243]
  ++ [244, 245, 247, 248, 249, 249, 250, 251, 252, 252, 253, 253, 253, 254, 254, 254]
  ++ [254, 254, 254, 254, 253, 253, 253, 252, 252, 251, 250, 249, 249, 248, 247, 245]
  ++ [244, 243, 242, 240, 239, 238, 236, 234, 233, 231, 229, 227, 225, 223, 221, 219]
  ++ [217, 215, 212, 210, 208, 205, 203, 200, 198, 195, 192, 190, 187, 184, 181, 178]
  ++ [176, 173, 170, 167, 164, 161, 158, 155, 152, 149, 146, 143, 139, 136, 133, 130]
  ++ [127, 124, 121, 118, 115, 111, 108, 105, 102, 99, 96, 93, 90, 87, 84, 81]
  ++ [78, 76, 73, 70, 67, 64, 62, 59, 56, 54, 51, 49, 46, 44, 42, 39]
  ++ [37, 35, 33, 31, 29, 27, 25, 23, 21, 20, 18, 16, 15, 14, 12, 11]
  ++ [10, 9, 7, 6, 5, 5, 4, 3, 2, 2, 1, 1, 1, 0, 0, 0]
  ++ [0, 0, 0, 0, 1, 1, 1, 2, 2, 3, 4, 5, 5, 6, 7, 9]
  ++ [10, 11, 12, 14, 15, 16, 18, 20, 21, 23, 25, 27, 29, 31, 33, 35]
  ++ [37, 39, 42, 44, 46, 49, 51, 54, 56, 59, 62, 64, 67, 70, 73, 76]
  ++ [78, 81, 84, 87, 90, 93, 96, 99, 102, 105, 108, 111, 115, 118, 121, 124]
  : List Nat).map (BitVec.ofNat 8)

/-- FREE VALUE. The byte that BUF entry `index` holds after the reset that began draw `draw`, until the host writes it
(10_state R52, D32; log 1). Nothing constrains it. -/
opaque freeByte : (draw index : Nat) → Byte

/-- FREE VALUE. `frame_byte(i)` for an index outside its domain 0..L+1 (41_hdlc_framer R234), which no run from reset
reaches (log 8). -/
opaque freeFrameByte : (index : Nat) → Byte

/-- FREE VALUE. BASE is the platform's; only that it is a multiple of 0x1000 is given (20_memory R101; log 11). -/
opaque basePage : Nat

/-- The parameter values this spec takes (00_scope R10). -/
def block : Params where
  spb := 88
  dmark := 745
  dspace := 1365
  lut := lutTable
  bodyMin := 16
  bodyMax := 328
  base := 0x1000 * basePage

/-- The block at another sample rate of `spb` samples per bit: the increments are recomputed (43_afsk R280, R281; 00_scope R10).
Where an increment does not fit its 16 bits (00_scope R11) there is no such block. -/
def atRate? (spb : Nat) : Option Params :=
  if phaseIncrement fMark spb < 65536 ∧ phaseIncrement fSpace spb < 65536 then
    some { block with
      spb := spb
      dmark := BitVec.ofNat 16 (phaseIncrement fMark spb)
      dspace := BitVec.ofNat 16 (phaseIncrement fSpace spb) }
  else none

end Config
end Sys2Proof
end

