-- ==== Sys2Proof/Syntax.lean ====
section
/-! DEFINITION. What the block is given: register names (10_state R57), events (30_encoding R142), raw operations (R140) and
the instruction type, one constructor for each mnemonic of opcode_table.json (R147). -/

namespace Sys2Proof

/-- The registers of the window (10_state R57), the frame buffer apart. -/
inductive Reg where
  | ctrl
  | status
  | events
  | cmd
  | frameLen
  | preambleMs
  | tailMs
  | pttLeadMs
  | pttTrailMs
  | crc
  | crcData
  | fcs
  | phase
  | param0
  | param1
  | sampleCount
  | timers
  | encPos
  deriving DecidableEq, Repr

/-- The environment events (30_encoding R142). -/
inductive Event where
  | reset
  | sampleStrobe
  | timeTick
  | sinkDrained
  | sinkFault
  deriving DecidableEq, Repr

/-- One operation as it reaches the block: the 16-bit word OP and, for a WRITE, the operand WDATA (30_encoding R140). -/
structure Operation where
  op : BitVec 16
  wdata : Option Word
  deriving DecidableEq, Repr

/-- The operations of the block, one constructor for each mnemonic of the table (30_encoding R147). `wdata` is the WRITE
operand, `i` a frame buffer index, `off` a window offset. -/
inductive Instr where
  /-- RD_CTRL: 45_host_bus R357. -/
  | rdCtrl
  /-- WR_CTRL: 45_host_bus R356. -/
  | wrCtrl (wdata : Word)
  /-- RD_STATUS: 45_host_bus R358. -/
  | rdStatus
  /-- WR_STATUS__read-only: 45_host_bus R354. -/
  | wrStatus (wdata : Word)
  /-- RD_EVENTS: 45_host_bus R360. -/
  | rdEvents
  /-- WR_EVENTS: 45_host_bus R359. -/
  | wrEvents (wdata : Word)
  /-- RD_CMD__write-only: 45_host_bus R355. -/
  | rdCmd
  /-- SEND: 44_ptt_sequencer R311. -/
  | send
  /-- CANCEL: 44_ptt_sequencer R314. -/
  | cancel
  /-- CRC_INIT: 40_crc R208. -/
  | crcInit
  /-- BAD_CMD: 45_host_bus R361. -/
  | badCmd (wdata : Word)
  /-- RD_FRAME_LEN: 45_host_bus R363. -/
  | rdFrameLen
  /-- WR_FRAME_LEN: 45_host_bus R362. -/
  | wrFrameLen (wdata : Word)
  /-- RD_PREAMBLE_MS: 45_host_bus R365. -/
  | rdPreambleMs
  /-- WR_PREAMBLE_MS: 45_host_bus R364. -/
  | wrPreambleMs (wdata : Word)
  /-- RD_TAIL_MS: 45_host_bus R365. -/
  | rdTailMs
  /-- WR_TAIL_MS: 45_host_bus R364. -/
  | wrTailMs (wdata : Word)
  /-- RD_PTT_LEAD_MS: 45_host_bus R365. -/
  | rdPttLeadMs
  /-- WR_PTT_LEAD_MS: 45_host_bus R364. -/
  | wrPttLeadMs (wdata : Word)
  /-- RD_PTT_TRAIL_MS: 45_host_bus R365. -/
  | rdPttTrailMs
  /-- WR_PTT_TRAIL_MS: 45_host_bus R364. -/
  | wrPttTrailMs (wdata : Word)
  /-- RD_CRC: 40_crc R209. -/
  | rdCrc
  /-- WR_CRC__read-only: 45_host_bus R354. -/
  | wrCrc (wdata : Word)
  /-- RD_CRC_DATA__write-only: 45_host_bus R355. -/
  | rdCrcData
  /-- WR_CRC_DATA: 40_crc R207. -/
  | wrCrcData (wdata : Word)
  /-- RD_FCS: 40_crc R210. -/
  | rdFcs
  /-- WR_FCS__read-only: 45_host_bus R354. -/
  | wrFcs (wdata : Word)
  /-- RD_PHASE: 45_host_bus R370. -/
  | rdPhase
  /-- WR_PHASE__read-only: 45_host_bus R354. -/
  | wrPhase (wdata : Word)
  /-- RD_PARAM0: 45_host_bus R371. -/
  | rdParam0
  /-- WR_PARAM0__read-only: 45_host_bus R354. -/
  | wrParam0 (wdata : Word)
  /-- RD_PARAM1: 45_host_bus R371. -/
  | rdParam1
  /-- WR_PARAM1__read-only: 45_host_bus R354. -/
  | wrParam1 (wdata : Word)
  /-- RD_SAMPLE_COUNT: 45_host_bus R372. -/
  | rdSampleCount
  /-- WR_SAMPLE_COUNT__read-only: 45_host_bus R354. -/
  | wrSampleCount (wdata : Word)
  /-- RD_TIMERS: 45_host_bus R373. -/
  | rdTimers
  /-- WR_TIMERS__read-only: 45_host_bus R354. -/
  | wrTimers (wdata : Word)
  /-- RD_ENC_POS: 45_host_bus R374. -/
  | rdEncPos
  /-- WR_ENC_POS__read-only: 45_host_bus R354. -/
  | wrEncPos (wdata : Word)
  /-- RD_BUF_i: 45_host_bus R377. -/
  | rdBuf (i : BitVec 9)
  /-- WR_BUF_i: 45_host_bus R376. -/
  | wrBuf (i : BitVec 9) (wdata : Word)
  /-- RD_unmapped: 45_host_bus R353. -/
  | rdUnmapped (off : Offset)
  /-- WR_unmapped: 45_host_bus R353. -/
  | wrUnmapped (off : Offset) (wdata : Word)
  /-- RD_misaligned: 45_host_bus R352. -/
  | rdMisaligned (off : Offset)
  /-- WR_misaligned: 45_host_bus R352. -/
  | wrMisaligned (off : Offset) (wdata : Word)
  /-- EV_RESET: 70_reset_and_hazards R440. -/
  | evReset
  /-- EV_SAMPLE_STROBE: 43_afsk R290. -/
  | evSampleStrobe
  /-- EV_TIME_TICK: 44_ptt_sequencer R315. -/
  | evTimeTick
  /-- EV_SINK_DRAINED: 44_ptt_sequencer R318. -/
  | evSinkDrained
  /-- EV_SINK_FAULT: 44_ptt_sequencer R319. -/
  | evSinkFault
  /-- INVALID: 30_encoding R143. -/
  | invalid (op : BitVec 16)
  deriving DecidableEq, Repr

end Sys2Proof
end

