-- ==== Sys2Proof/WellFormed.lean ====
section
/-! DEFINITION. Which instruction terms some operation word spells: the operand checks of 30_encoding R143, R144, R146, stated
on the operands themselves and not through the decoder. -/

namespace Sys2Proof

/-- An offset with OFF[1:0] != 0 (20_memory R106). -/
def Offset.misaligned (off : Offset) : Bool := off.toNat % 4 != 0

/-- An aligned offset at which there is neither a register nor a BUF entry (10_state R77): 0x048-0x7FC, or 0x800 + 4i with
i from BODY_MAX to 511. -/
def Offset.unmapped (P : Params) (off : Offset) : Bool :=
  off.toNat % 4 == 0 &&
    ((0x048 ≤ off.toNat && off.toNat ≤ 0x7FC) || 0x800 + 4 * P.bodyMax ≤ off.toNat)

/-- A word that spells no operation (30_encoding R143). -/
def illegalWord (op : BitVec 16) : Bool :=
  op.extractLsb 15 14 == 0b11 || op.extractLsb 13 12 != 0b00 ||
    (op.extractLsb 15 14 == 0b10 && (op.extractLsb 11 4 != 0 || 5 ≤ (op.extractLsb 3 0).toNat))

/-- The operand checks of an instruction; every instruction not named here has no operand that could be wrong. -/
def Instr.wf (P : Params) : Instr → Bool
  | .badCmd w => w != 1 && w != 2 && w != 3
  | .rdBuf i => i.toNat < P.bodyMax
  | .wrBuf i _ => i.toNat < P.bodyMax
  | .rdUnmapped off => off.unmapped P
  | .wrUnmapped off _ => off.unmapped P
  | .rdMisaligned off => Offset.misaligned off
  | .wrMisaligned off _ => Offset.misaligned off
  | .invalid op => illegalWord op
  | _ => true

end Sys2Proof
end

