-- ==== Sys2Proof/Decode.lean ====
section
/-! DEFINITION. From operation words to instructions and back (30_encoding). `decode` reads fields and dispatches as
45_host_bus R350 and R351 do; `encode` writes each OP word as the complete map of 30_encoding R147 lists it. -/

namespace Sys2Proof

/-! ## The register map -/

/-- The offset of a register (10_state R57). -/
def Reg.offset : Reg → Offset
  | .ctrl => 0x000
  | .status => 0x004
  | .events => 0x008
  | .cmd => 0x00C
  | .frameLen => 0x010
  | .preambleMs => 0x014
  | .tailMs => 0x018
  | .pttLeadMs => 0x01C
  | .pttTrailMs => 0x020
  | .crc => 0x024
  | .crcData => 0x028
  | .fcs => 0x02C
  | .phase => 0x030
  | .param0 => 0x034
  | .param1 => 0x038
  | .sampleCount => 0x03C
  | .timers => 0x040
  | .encPos => 0x044

/-- The registers in the order of their offsets. -/
def Reg.all : List Reg :=
  [.ctrl, .status, .events, .cmd, .frameLen, .preambleMs, .tailMs, .pttLeadMs, .pttTrailMs] ++
  [.crc, .crcData, .fcs, .phase, .param0, .param1, .sampleCount, .timers, .encPos]

/-- The register at an offset, if one is there (30_encoding R144). -/
def Reg.at? (off : Offset) : Option Reg := Reg.all.find? fun r => r.offset == off

/-- EVT, the code of an event (30_encoding R142). -/
def Event.code : Event → BitVec 4
  | .reset => 0
  | .sampleStrobe => 1
  | .timeTick => 2
  | .sinkDrained => 3
  | .sinkFault => 4

def Event.all : List Event := [.reset, .sampleStrobe, .timeTick, .sinkDrained, .sinkFault]

/-- The event of a code; codes 5-15 are reserved (30_encoding R142). -/
def Event.ofCode? (c : BitVec 4) : Option Event := Event.all.find? fun e => e.code == c

/-! ## Fields of the operation word -/

/-- OP[15:14], the class (30_encoding R140). -/
def opClass (op : BitVec 16) : BitVec 2 := op.extractLsb' 14 2

/-- OP[13:12], reserved, must be 00 (30_encoding R140). -/
def opReserved (op : BitVec 16) : BitVec 2 := op.extractLsb' 12 2

/-- OP[11:0], OFF (30_encoding R144). -/
def opOffset (op : BitVec 16) : Offset := op.extractLsb' 0 12

/-- OP[11:4], zero in an event (30_encoding R140). -/
def opEventHigh (op : BitVec 16) : BitVec 8 := op.extractLsb' 4 8

/-- OP[3:0], EVT (30_encoding R140). -/
def opEventCode (op : BitVec 16) : BitVec 4 := op.extractLsb' 0 4

/-- OFF[1:0], not 0 in a misaligned access (30_encoding R144). -/
def offsetLow (off : Offset) : BitVec 2 := off.extractLsb' 0 2

/-- OFF[10:2], the index of a frame buffer slot (30_encoding R144). -/
def offsetIndex (off : Offset) : BitVec 9 := off.extractLsb' 2 9

/-- What an offset names, in the order in which an access is checked (30_encoding R144, 60_exceptions R406). -/
inductive Slot where
  | misaligned
  | bufEntry (i : BitVec 9)
  | register (r : Reg)
  | unmapped
  deriving DecidableEq, Repr

/-- The slot of an offset (30_encoding R144; 45_host_bus R350, R351). -/
def slotOf (P : Params) (off : Offset) : Slot :=
  if offsetLow off ≠ 0 then .misaligned
  else if off.getLsbD 11 then
    if (offsetIndex off).toNat < P.bodyMax then .bufEntry (offsetIndex off) else .unmapped
  else
    match Reg.at? off with
    | some r => .register r
    | none => .unmapped

/-! ## Decoding -/

/-- Why an arrival is no operation although its word is legal: its operand does not fit its class (log 5). -/
inductive DecodeError where
  /-- A WRITE that brings no WDATA. -/
  | operandMissing
  /-- A READ or an EVENT that brings a WDATA. -/
  | operandNotTaken
  deriving DecidableEq, Repr

/-- The read of a register. -/
def Reg.readInstr : Reg → Instr
  | .ctrl => .rdCtrl
  | .status => .rdStatus
  | .events => .rdEvents
  | .cmd => .rdCmd
  | .frameLen => .rdFrameLen
  | .preambleMs => .rdPreambleMs
  | .tailMs => .rdTailMs
  | .pttLeadMs => .rdPttLeadMs
  | .pttTrailMs => .rdPttTrailMs
  | .crc => .rdCrc
  | .crcData => .rdCrcData
  | .fcs => .rdFcs
  | .phase => .rdPhase
  | .param0 => .rdParam0
  | .param1 => .rdParam1
  | .sampleCount => .rdSampleCount
  | .timers => .rdTimers
  | .encPos => .rdEncPos

/-- A WRITE to CMD is decoded further by all 32 bits of WDATA (30_encoding R146). -/
def commandInstr (w : Word) : Instr :=
  if w = 0x00000001 then .send
  else if w = 0x00000002 then .cancel
  else if w = 0x00000003 then .crcInit
  else .badCmd w

/-- The write of a register. -/
def Reg.writeInstr (w : Word) : Reg → Instr
  | .ctrl => .wrCtrl w
  | .status => .wrStatus w
  | .events => .wrEvents w
  | .cmd => commandInstr w
  | .frameLen => .wrFrameLen w
  | .preambleMs => .wrPreambleMs w
  | .tailMs => .wrTailMs w
  | .pttLeadMs => .wrPttLeadMs w
  | .pttTrailMs => .wrPttTrailMs w
  | .crc => .wrCrc w
  | .crcData => .wrCrcData w
  | .fcs => .wrFcs w
  | .phase => .wrPhase w
  | .param0 => .wrParam0 w
  | .param1 => .wrParam1 w
  | .sampleCount => .wrSampleCount w
  | .timers => .wrTimers w
  | .encPos => .wrEncPos w

def Event.instr : Event → Instr
  | .reset => .evReset
  | .sampleStrobe => .evSampleStrobe
  | .timeTick => .evTimeTick
  | .sinkDrained => .evSinkDrained
  | .sinkFault => .evSinkFault

/-- The READ of an offset (45_host_bus R350). -/
def decodeRead (P : Params) (off : Offset) : Instr :=
  match slotOf P off with
  | .misaligned => .rdMisaligned off
  | .bufEntry i => .rdBuf i
  | .register r => r.readInstr
  | .unmapped => .rdUnmapped off

/-- The WRITE of an offset (45_host_bus R351). -/
def decodeWrite (P : Params) (off : Offset) (w : Word) : Instr :=
  match slotOf P off with
  | .misaligned => .wrMisaligned off w
  | .bufEntry i => .wrBuf i w
  | .register r => r.writeInstr w
  | .unmapped => .wrUnmapped off w

/-- The event an EVENT word spells, if any (30_encoding R140, R142). -/
def decodeEvent (op : BitVec 16) : Option Event :=
  if opEventHigh op = 0 then Event.ofCode? (opEventCode op) else none

/-- The decoder, total on every operation. An illegal word is `invalid` whatever operand comes with it (30_encoding R143). -/
def decode (P : Params) (o : Operation) : Except DecodeError Instr :=
  if opReserved o.op ≠ 0 then .ok (.invalid o.op)
  else if opClass o.op = 0b00 then
    match o.wdata with
    | none => .ok (decodeRead P (opOffset o.op))
    | some _ => .error .operandNotTaken
  else if opClass o.op = 0b01 then
    match o.wdata with
    | some w => .ok (decodeWrite P (opOffset o.op) w)
    | none => .error .operandMissing
  else if opClass o.op = 0b10 then
    match decodeEvent o.op, o.wdata with
    | some e, none => .ok e.instr
    | some _, some _ => .error .operandNotTaken
    | none, _ => .ok (.invalid o.op)
  else .ok (.invalid o.op)

/-! ## Encoding -/

/-- The OP word of a READ of an offset: 0x0000 + OFF (30_encoding R149). -/
def readWord (off : Offset) : BitVec 16 := off.setWidth 16

/-- The OP word of a WRITE of an offset: 0x4000 + OFF (30_encoding R149). -/
def writeWord (off : Offset) : BitVec 16 := 0x4000 ||| off.setWidth 16

/-- The OP word of an event: 0x8000 + EVT (30_encoding R142). -/
def eventWord (e : Event) : BitVec 16 := 0x8000 ||| e.code.setWidth 16

/-- The offset of BUF[i]: 0x800 + 4i (10_state R57). -/
def bufOffset (i : BitVec 9) : Offset := 0x800 ||| i.setWidth 12 <<< 2

/-- The operation that spells an instruction (30_encoding R147). -/
def encode : Instr → Operation
  | .rdCtrl => ⟨0x0000, none⟩
  | .wrCtrl w => ⟨0x4000, some w⟩
  | .rdStatus => ⟨0x0004, none⟩
  | .wrStatus w => ⟨0x4004, some w⟩
  | .rdEvents => ⟨0x0008, none⟩
  | .wrEvents w => ⟨0x4008, some w⟩
  | .rdCmd => ⟨0x000C, none⟩
  | .send => ⟨0x400C, some 0x00000001⟩
  | .cancel => ⟨0x400C, some 0x00000002⟩
  | .crcInit => ⟨0x400C, some 0x00000003⟩
  | .badCmd w => ⟨0x400C, some w⟩
  | .rdFrameLen => ⟨0x0010, none⟩
  | .wrFrameLen w => ⟨0x4010, some w⟩
  | .rdPreambleMs => ⟨0x0014, none⟩
  | .wrPreambleMs w => ⟨0x4014, some w⟩
  | .rdTailMs => ⟨0x0018, none⟩
  | .wrTailMs w => ⟨0x4018, some w⟩
  | .rdPttLeadMs => ⟨0x001C, none⟩
  | .wrPttLeadMs w => ⟨0x401C, some w⟩
  | .rdPttTrailMs => ⟨0x0020, none⟩
  | .wrPttTrailMs w => ⟨0x4020, some w⟩
  | .rdCrc => ⟨0x0024, none⟩
  | .wrCrc w => ⟨0x4024, some w⟩
  | .rdCrcData => ⟨0x0028, none⟩
  | .wrCrcData w => ⟨0x4028, some w⟩
  | .rdFcs => ⟨0x002C, none⟩
  | .wrFcs w => ⟨0x402C, some w⟩
  | .rdPhase => ⟨0x0030, none⟩
  | .wrPhase w => ⟨0x4030, some w⟩
  | .rdParam0 => ⟨0x0034, none⟩
  | .wrParam0 w => ⟨0x4034, some w⟩
  | .rdParam1 => ⟨0x0038, none⟩
  | .wrParam1 w => ⟨0x4038, some w⟩
  | .rdSampleCount => ⟨0x003C, none⟩
  | .wrSampleCount w => ⟨0x403C, some w⟩
  | .rdTimers => ⟨0x0040, none⟩
  | .wrTimers w => ⟨0x4040, some w⟩
  | .rdEncPos => ⟨0x0044, none⟩
  | .wrEncPos w => ⟨0x4044, some w⟩
  | .evReset => ⟨0x8000, none⟩
  | .evSampleStrobe => ⟨0x8001, none⟩
  | .evTimeTick => ⟨0x8002, none⟩
  | .evSinkDrained => ⟨0x8003, none⟩
  | .evSinkFault => ⟨0x8004, none⟩
  | .rdBuf i => ⟨readWord (bufOffset i), none⟩
  | .wrBuf i w => ⟨writeWord (bufOffset i), some w⟩
  | .rdUnmapped off => ⟨readWord off, none⟩
  | .wrUnmapped off w => ⟨writeWord off, some w⟩
  | .rdMisaligned off => ⟨readWord off, none⟩
  | .wrMisaligned off w => ⟨writeWord off, some w⟩
  | .invalid op => ⟨op, none⟩

/-! ## Words numbered as the opcode table numbers them -/

/-- The operation whose bits are `v`: OP in bits 15..0 and, where the class is WRITE and the word is legal, WDATA in bits
47..16; bits of `v` from `nbits` up are taken as 0 (log 7). -/
def Operation.ofTableWord (nbits v : Nat) : Operation :=
  let bits := v % 2 ^ nbits
  let op := BitVec.ofNat 16 bits
  ⟨op, if opClass op = 0b01 ∧ opReserved op = 0 then some (BitVec.ofNat 32 (bits >>> 16)) else none⟩

/-- The instruction the decoder reads from a word numbered as spec/opcode_table.json numbers it. -/
def decodeTableWord (nbits w : Nat) : Option Instr :=
  match decode Config.block (Operation.ofTableWord nbits w) with
  | .ok i => some i
  | .error _ => none

end Sys2Proof
end

