-- ==== Sys2Proof/Machine/State.lean ====
section
/-! DEFINITION. The state of the block (10_state), plain data, and its value after reset (70_reset_and_hazards R441). -/

namespace Sys2Proof.Machine

/-- The PTT sequencer's states (10_state R33); the codes 6 and 7 are never reached and have no value here (log 10). -/
inductive SeqState where
  | ready
  | pttAssert
  | txPreamble
  | txFrame
  | txTail
  | pttRelease
  deriving DecidableEq, Repr

/-- The framer's states (10_state R40); the codes 5-7 are never reached and have no value here (log 10). -/
inductive EncState where
  | idle
  | preamble
  | frame
  | tail
  | done
  deriving DecidableEq, Repr

/-- The tone of the NRZI layer (10_state R47): mark 1200 Hz, space 2200 Hz. -/
inductive Tone where
  | mark
  | space
  deriving DecidableEq, Repr

/-- The error codes of STATUS.ERR_CODE (60_exceptions R401); the codes 6-15 are never produced (log 10). -/
inductive ErrCode where
  | none
  | busy
  | badConfig
  | badLength
  | audioFault
  | badCmd
  deriving DecidableEq, Repr

/-- What the last transition put out: nothing, the RDATA of a read (45_host_bus R350), or the sample of a strobe
(10_state R56). The model's own field; the block has no such register (log 3). -/
inductive Response where
  | none
  | rdata (v : Word)
  | sample (v : Byte)
  deriving DecidableEq, Repr

/-- The frame buffer's contents as (index, byte) pairs, indexes strictly rising; an index that is not listed holds the byte
of its draw (10_state R52; log 1, log 12). -/
abbrev Memory := List Host.Cell

/-- The block's state. Field by field 10_state R33-R52 and R58-R66; the last three fields are the model's own. -/
structure State where
  /-- seq_state (10_state R33). -/
  seqState : SeqState
  /-- ptt_asserted (10_state R34). -/
  pttAsserted : Bool
  /-- drained (10_state R35). -/
  drained : Bool
  /-- cancel_pend (10_state R36). -/
  cancelPend : Bool
  /-- lead_cnt (10_state R37). -/
  leadCnt : Half
  /-- trail_cnt (10_state R38). -/
  trailCnt : Half
  /-- lat_len (10_state R39). -/
  latLen : BitVec 9
  /-- lat_pre (10_state R39). -/
  latPre : BitVec 8
  /-- lat_tail (10_state R39). -/
  latTail : BitVec 8
  /-- lat_trail (10_state R39). -/
  latTrail : Half
  /-- enc_state (10_state R40). -/
  encState : EncState
  /-- flags_left (10_state R41). -/
  flagsLeft : BitVec 8
  /-- bit_pos (10_state R42). -/
  bitPos : BitVec 3
  /-- byte_idx (10_state R43). -/
  byteIdx : BitVec 9
  /-- ones (10_state R44). -/
  ones : BitVec 3
  /-- crc (10_state R45). -/
  crc : Half
  /-- fcs (10_state R46). -/
  fcs : Half
  /-- tone (10_state R47). -/
  tone : Tone
  /-- phase_acc (10_state R48). -/
  phaseAcc : Half
  /-- phase_inc (10_state R49). -/
  phaseInc : Half
  /-- sample_index (10_state R50). -/
  sampleIndex : BitVec 7
  /-- sample_count (10_state R51). -/
  sampleCount : Word
  /-- BUF (10_state R52), the written entries. -/
  buf : Memory
  /-- CTRL.PTT_POL (10_state R58). -/
  pttPol : Bool
  /-- CTRL.NRZI_INIT (10_state R58). -/
  nrziInit : Bool
  /-- CTRL.IE_DONE (10_state R58). -/
  ieDone : Bool
  /-- CTRL.IE_ERR (10_state R58). -/
  ieErr : Bool
  /-- EVENTS.DONE (10_state R60). -/
  evDone : Bool
  /-- EVENTS.ERR (10_state R60). -/
  evErr : Bool
  /-- EVENTS.ACC_ERR (10_state R60). -/
  evAccErr : Bool
  /-- STATUS.ERR_CODE (10_state R59, 60_exceptions R401). -/
  errCode : ErrCode
  /-- FRAME_LEN.LEN (10_state R62). -/
  frameLen : BitVec 9
  /-- PREAMBLE_MS.MS (10_state R63). -/
  preambleMs : Half
  /-- TAIL_MS.MS (10_state R64). -/
  tailMs : Half
  /-- PTT_LEAD_MS.MS (10_state R65). -/
  pttLeadMs : Half
  /-- PTT_TRAIL_MS.MS (10_state R66). -/
  pttTrailMs : Half
  /-- The model's own: the operations that have arrived and are not yet performed, oldest first (20_memory R111; log 2). -/
  inbox : List Operation
  /-- The model's own: the output of the last transition (log 3). -/
  response : Response
  /-- The model's own: which draw of the frame buffer is in force (10_state R52; log 1). -/
  draws : Nat
  deriving DecidableEq, Repr

/-- Why the machine stops with a fault: never. "No error stops the block or needs a RESET to clear" (60_exceptions R400), so
there is no constructor; every error of the spec is a status bit, set by `reject` or `accErr`. -/
inductive Fault where
  deriving DecidableEq, Repr

/-- Why an arrival is not performed. -/
inductive Refusal where
  /-- Raised by an arm of `exec` whose instruction has no meaning yet. Safe: no next state is claimed. -/
  | notModelled (mnemonic : String)
  /-- Raised by `execInvalid` for a word that spells no operation: "The block cannot receive such a word ... so a model
  refuses it" (30_encoding R143). Safe: no transition happens. -/
  | noSuchOperation (op : BitVec 16)
  /-- Raised by `step` for an arrival whose operand does not fit its class: a WRITE without WDATA, or a READ or EVENT with one
  (30_encoding R140; log 5). Safe: no transition happens. -/
  | malformedArrival
  deriving DecidableEq, Repr

/-- The state right after reset of the block built with parameters `P` (70_reset_and_hazards R441). The latches are 0 as it lists them (log 13);
the three last fields are the model's (log 1, log 2, log 3). -/
def State.resetFor (P : Params) : State where
  seqState := .ready
  pttAsserted := false
  drained := false
  cancelPend := false
  leadCnt := 0
  trailCnt := 0
  latLen := 0
  latPre := 0
  latTail := 0
  latTrail := 0
  encState := .idle
  flagsLeft := 0
  bitPos := 0
  byteIdx := 0
  ones := 0
  crc := 0xFFFF
  fcs := 0x0000
  tone := .mark
  phaseAcc := 0
  phaseInc := P.dmark
  sampleIndex := 0
  sampleCount := 0
  buf := []
  pttPol := true
  nrziInit := false
  ieDone := false
  ieErr := false
  evDone := false
  evErr := false
  evAccErr := false
  errCode := .none
  frameLen := 0
  preambleMs := 350
  tailMs := 50
  pttLeadMs := 50
  pttTrailMs := 20
  inbox := []
  response := .none
  draws := 0

/-- The same for the parameter values this spec takes (00_scope R10). -/
def State.reset : State := State.resetFor Config.block

end Sys2Proof.Machine
end

