-- ==== Sys2Proof/Machine/Flags.lean ====
section
/-! DEFINITION. Everything computed from the state without changing it: the codes of the named states, BUSY, the two output
pins, and the words the registers show (10_state R33-R75). -/

namespace Sys2Proof.Machine

/-! ## Codes -/

/-- seq_state as software sees it (10_state R33). -/
def SeqState.code : SeqState → BitVec 3
  | .ready => 0
  | .pttAssert => 1
  | .txPreamble => 2
  | .txFrame => 3
  | .txTail => 4
  | .pttRelease => 5

/-- enc_state as software sees it (10_state R40). -/
def EncState.code : EncState → BitVec 3
  | .idle => 0
  | .preamble => 1
  | .frame => 2
  | .tail => 3
  | .done => 4

/-- tone as software sees it (10_state R47). -/
def Tone.code : Tone → BitVec 1
  | .mark => 0
  | .space => 1

/-- The tone CTRL.NRZI_INIT names: 0 mark, 1 space (10_state R58). -/
def Tone.ofInit (nrziInit : Bool) : Tone := if nrziInit then .space else .mark

/-- ERR_CODE as software sees it (60_exceptions R401). -/
def ErrCode.code : ErrCode → BitVec 4
  | .none => 0
  | .busy => 1
  | .badConfig => 2
  | .badLength => 3
  | .audioFault => 4
  | .badCmd => 5

/-! ## Flags and pins -/

/-- BUSY: seq_state != 0 (10_state R33). -/
def State.busy (s : State) : Bool := s.seqState != .ready

/-- One of the states in which a strobe takes a sample (43_afsk R290). -/
def State.transmitting (s : State) : Bool :=
  s.seqState == .txPreamble || s.seqState == .txFrame || s.seqState == .txTail

/-- The output `ptt` (10_state R54, 44_ptt_sequencer R322). -/
def State.pttPin (s : State) : Bool := if s.pttPol then s.pttAsserted else !s.pttAsserted

/-- The output `irq` (10_state R55, 60_exceptions R407). -/
def State.irq (s : State) : Bool := (s.evDone && s.ieDone) || (s.evErr && s.ieErr)

/-- What a run shows after each transition (D44): the read value or sample, if any, and the two pin levels. -/
structure Observation where
  response : Response
  ptt : Bool
  irq : Bool
  deriving DecidableEq, Repr

def State.observe (s : State) : Observation := ⟨s.response, s.pttPin, s.irq⟩

/-! ## What the registers show -/

/-- One bit at a place of a word. -/
def bitAt (b : Bool) (place : Nat) : Word := (BitVec.ofBool b).setWidth 32 <<< place

/-- RD CTRL (45_host_bus R357). -/
def State.ctrlWord (s : State) : Word :=
  bitAt s.ieErr 3 ||| bitAt s.ieDone 2 ||| bitAt s.nrziInit 1 ||| bitAt s.pttPol 0

/-- RD STATUS (45_host_bus R358). -/
def State.statusWord (s : State) : Word :=
  s.seqState.code.setWidth 32 ||| s.encState.code.setWidth 32 <<< 4 ||| bitAt s.busy 8 |||
    bitAt s.pttAsserted 9 ||| bitAt s.pttPin 10 ||| s.tone.code.setWidth 32 <<< 11 ||| bitAt s.drained 12 |||
    bitAt s.cancelPend 13 ||| s.errCode.code.setWidth 32 <<< 16

/-- RD EVENTS (45_host_bus R360). -/
def State.eventsWord (s : State) : Word :=
  bitAt s.evAccErr 2 ||| bitAt s.evErr 1 ||| bitAt s.evDone 0

/-- RD PHASE (45_host_bus R370). -/
def State.phaseWord (s : State) : Word := s.phaseInc.setWidth 32 <<< 16 ||| s.phaseAcc.setWidth 32

/-- RD PARAM0 (45_host_bus R371). -/
def param0Word (P : Params) : Word := P.dspace.setWidth 32 <<< 16 ||| P.dmark.setWidth 32

/-- RD PARAM1: SPB in bits 7:0, BODY_MAX in bits 24:16 (10_state R72, 45_host_bus R371). -/
def param1Word (P : Params) : Word :=
  (BitVec.ofNat 9 P.bodyMax).setWidth 32 <<< 16 ||| (BitVec.ofNat 8 P.spb).setWidth 32

/-- RD TIMERS (45_host_bus R373). -/
def State.timersWord (s : State) : Word := s.trailCnt.setWidth 32 <<< 16 ||| s.leadCnt.setWidth 32

/-- RD ENC_POS (45_host_bus R374). -/
def State.encPosWord (s : State) : Word :=
  s.sampleIndex.setWidth 32 <<< 24 ||| s.flagsLeft.setWidth 32 <<< 16 ||| s.ones.setWidth 32 <<< 12 |||
    s.bitPos.setWidth 32 <<< 9 ||| s.byteIdx.setWidth 32

end Sys2Proof.Machine
end

