-- ==== Sys2Proof/Machine/Operands.lean ====
section
/-! DEFINITION. Which bits of the WRITE operand each register takes (30_encoding R145). Unused bits are ignored; nothing is
sign-extended or shifted. -/

namespace Sys2Proof.Machine

/-- WDATA[15:0]: the timing registers (45_host_bus R364). -/
def operandMs (w : Word) : Half := w.extractLsb' 0 16

/-- WDATA[8:0]: FRAME_LEN (45_host_bus R362). -/
def operandLen (w : Word) : BitVec 9 := w.extractLsb' 0 9

/-- WDATA[7:0]: a BUF entry (45_host_bus R376) and CRC_DATA (40_crc R207). -/
def operandByte (w : Word) : Byte := w.extractLsb' 0 8

/-- WDATA[0]: CTRL.PTT_POL (45_host_bus R356). -/
def operandPttPol (w : Word) : Bool := w.getLsbD 0

/-- WDATA[1]: CTRL.NRZI_INIT (45_host_bus R356). -/
def operandNrziInit (w : Word) : Bool := w.getLsbD 1

/-- WDATA[2]: CTRL.IE_DONE (45_host_bus R356). -/
def operandIeDone (w : Word) : Bool := w.getLsbD 2

/-- WDATA[3]: CTRL.IE_ERR (45_host_bus R356). -/
def operandIeErr (w : Word) : Bool := w.getLsbD 3

/-- WDATA[0], WDATA[1], WDATA[2]: the bits of EVENTS a write clears (45_host_bus R359). -/
def operandClearsDone (w : Word) : Bool := w.getLsbD 0
def operandClearsErr (w : Word) : Bool := w.getLsbD 1
def operandClearsAccErr (w : Word) : Bool := w.getLsbD 2

end Sys2Proof.Machine
end

