-- ==== Sys2Proof/Machine/Ops.lean ====
section
/-! DEFINITION. The named operations every meaning is built from: the frame buffer, the output of a transition, the recording
of errors and its undoing (the block's only "exception" mechanism, 60_exceptions R400), and the BUSY lock. -/

namespace Sys2Proof.Machine

/-! ## The frame buffer -/

/-- The canonical form of the frame buffer's contents: indexes strictly rising, each an entry that exists. -/
abbrev Memory.wf (P : Params) (m : Memory) : Prop :=
  m.Pairwise (fun c d => c.1 < d.1) ∧ ∀ c ∈ m, c.1 < P.bodyMax

/-- The byte listed at an index, if one is listed. -/
def Memory.find? : Memory → Nat → Option Byte
  | [], _ => none
  | c :: m, a => if c.1 = a then some c.2 else Memory.find? m a

/-- The contents with one byte written, the order of indexes kept. -/
def Memory.store : Memory → Nat → Byte → Memory
  | [], a, b => [(a, b)]
  | c :: m, a, b =>
    if a < c.1 then (a, b) :: c :: m
    else if a = c.1 then (a, b) :: m
    else c :: Memory.store m a b

/-- What an index reads as that the host has not written since the reset of draw `draw`: an unspecified byte, the same at
every read (10_state R52, D32; log 1). -/
def unwrittenByte (draw index : Nat) : Byte := Config.freeByte draw index

/-- `BUF[i]` (00_scope R14). -/
def State.bufByte (s : State) (i : Nat) : Byte := (Memory.find? s.buf i).getD (unwrittenByte s.draws i)

/-- `BUF[i] <- b`. -/
def State.storeBuf (s : State) (i : Nat) (b : Byte) : State := { s with buf := Memory.store s.buf i b }

/-! ## The output of a transition -/

/-- Set what the transition puts out. Every meaning calls it once. -/
def respond (r : Response) (s : State) : State := { s with response := r }

/-! ## Recording errors -/

/-- `reject(code)`: a command error or an audio fault (60_exceptions R402). -/
def reject (code : ErrCode) (s : State) : State := { s with errCode := code, evErr := true }

/-- `acc_err()`: a bad bus access (60_exceptions R404). -/
def accErr (s : State) : State := { s with evAccErr := true }

/-- A read that is a bad access returns 0 (45_host_bus R352, R353). -/
def badRead (s : State) : State := respond (.rdata 0) (accErr s)

/-- A write that is a bad access changes nothing else (45_host_bus R352, R353, R354). -/
def badWrite (s : State) : State := respond .none (accErr s)

/-- The undoing, the host's write of 1s to EVENTS: the block's "return from interrupt" (45_host_bus R359, 60_exceptions R409). -/
def clearEvents (w : Word) (s : State) : State :=
  { s with
    evDone := if operandClearsDone w then false else s.evDone
    evErr := if operandClearsErr w then false else s.evErr
    errCode := if operandClearsErr w then .none else s.errCode
    evAccErr := if operandClearsAccErr w then false else s.evAccErr }

/-! ## Locks -/

/-- A write that is refused as a bad access while BUSY and has its effect otherwise (D12; 60_exceptions R404). -/
def unlessBusy (effect : State → State) (s : State) : State := if s.busy then accErr s else effect s

end Sys2Proof.Machine
end

