-- ==== Sys2Proof/Machine/HostBus.lean ====
section
/-! DEFINITION. The host bus: reads and writes of the registers and the frame buffer (45_host_bus). SEND and CANCEL are in
Sequencer.lean, the CRC operations in Crc.lean. -/

namespace Sys2Proof.Machine

/-! ## Bad accesses (45_host_bus R352-R355) -/

/-- RD of a misaligned offset (45_host_bus R352). -/
def execRdMisaligned (_off : Offset) (s : State) : Host.Outcome State Fault Refusal := .next (badRead s)

/-- WR of a misaligned offset (45_host_bus R352). -/
def execWrMisaligned (_off : Offset) (_w : Word) (s : State) : Host.Outcome State Fault Refusal := .next (badWrite s)

/-- RD of an unmapped offset (45_host_bus R353). -/
def execRdUnmapped (_off : Offset) (s : State) : Host.Outcome State Fault Refusal := .next (badRead s)

/-- WR of an unmapped offset (45_host_bus R353). -/
def execWrUnmapped (_off : Offset) (_w : Word) (s : State) : Host.Outcome State Fault Refusal := .next (badWrite s)

/-- WR of STATUS, a read-only register (45_host_bus R354). -/
def execWrStatus (_w : Word) (s : State) : Host.Outcome State Fault Refusal := .next (badWrite s)

/-- WR of CRC, a read-only register (45_host_bus R354). -/
def execWrCrc (_w : Word) (s : State) : Host.Outcome State Fault Refusal := .next (badWrite s)

/-- WR of FCS, a read-only register (45_host_bus R354). -/
def execWrFcs (_w : Word) (s : State) : Host.Outcome State Fault Refusal := .next (badWrite s)

/-- WR of PHASE, a read-only register (45_host_bus R354). -/
def execWrPhase (_w : Word) (s : State) : Host.Outcome State Fault Refusal := .next (badWrite s)

/-- WR of PARAM0, a read-only register (45_host_bus R354). -/
def execWrParam0 (_w : Word) (s : State) : Host.Outcome State Fault Refusal := .next (badWrite s)

/-- WR of PARAM1, a read-only register (45_host_bus R354). -/
def execWrParam1 (_w : Word) (s : State) : Host.Outcome State Fault Refusal := .next (badWrite s)

/-- WR of SAMPLE_COUNT, a read-only register (45_host_bus R354). -/
def execWrSampleCount (_w : Word) (s : State) : Host.Outcome State Fault Refusal := .next (badWrite s)

/-- WR of TIMERS, a read-only register (45_host_bus R354). -/
def execWrTimers (_w : Word) (s : State) : Host.Outcome State Fault Refusal := .next (badWrite s)

/-- WR of ENC_POS, a read-only register (45_host_bus R354). -/
def execWrEncPos (_w : Word) (s : State) : Host.Outcome State Fault Refusal := .next (badWrite s)

/-- RD of CMD, a write-only register: 0, and not a bad access (45_host_bus R355). -/
def execRdCmd (s : State) : Host.Outcome State Fault Refusal := .next (respond (.rdata 0) s)

/-- RD of CRC_DATA, a write-only register: 0, and not a bad access (45_host_bus R355). -/
def execRdCrcData (s : State) : Host.Outcome State Fault Refusal := .next (respond (.rdata 0) s)

/-! ## Control, status and events (45_host_bus R356-R361) -/

/-- The locked bits of CTRL would change while BUSY (45_host_bus R356). -/
def ctrlLocked (w : Word) (s : State) : Bool :=
  s.busy && (operandPttPol w != s.pttPol || operandNrziInit w != s.nrziInit)

/-- The first half of WR CTRL: PTT_POL and NRZI_INIT, or a bad access (45_host_bus R356). -/
def writeLockedCtrl (w : Word) (s : State) : State :=
  if ctrlLocked w s then accErr s else { s with pttPol := operandPttPol w, nrziInit := operandNrziInit w }

/-- WR CTRL; the enables are written in every case (45_host_bus R356). -/
def execWrCtrl (w : Word) (s : State) : Host.Outcome State Fault Refusal :=
  .next (respond .none { writeLockedCtrl w s with ieDone := operandIeDone w, ieErr := operandIeErr w })

/-- RD CTRL (45_host_bus R357). -/
def execRdCtrl (s : State) : Host.Outcome State Fault Refusal := .next (respond (.rdata s.ctrlWord) s)

/-- RD STATUS (45_host_bus R358). -/
def execRdStatus (s : State) : Host.Outcome State Fault Refusal := .next (respond (.rdata s.statusWord) s)

/-- WR EVENTS, write 1 to clear (45_host_bus R359). -/
def execWrEvents (w : Word) (s : State) : Host.Outcome State Fault Refusal := .next (respond .none (clearEvents w s))

/-- RD EVENTS (45_host_bus R360). -/
def execRdEvents (s : State) : Host.Outcome State Fault Refusal := .next (respond (.rdata s.eventsWord) s)

/-- WR CMD with a value that is no command (45_host_bus R361). -/
def execBadCmd (_w : Word) (s : State) : Host.Outcome State Fault Refusal := .next (respond .none (reject .badCmd s))

/-! ## Configuration (45_host_bus R362-R365) -/

/-- WR FRAME_LEN; locked while BUSY (45_host_bus R362). -/
def execWrFrameLen (w : Word) (s : State) : Host.Outcome State Fault Refusal :=
  .next (respond .none (unlessBusy (fun s => { s with frameLen := operandLen w }) s))

/-- RD FRAME_LEN (45_host_bus R363). -/
def execRdFrameLen (s : State) : Host.Outcome State Fault Refusal := .next (respond (.rdata (s.frameLen.setWidth 32)) s)

/-- WR PREAMBLE_MS, in every state (45_host_bus R364). -/
def execWrPreambleMs (w : Word) (s : State) : Host.Outcome State Fault Refusal :=
  .next (respond .none { s with preambleMs := operandMs w })

/-- RD PREAMBLE_MS (45_host_bus R365). -/
def execRdPreambleMs (s : State) : Host.Outcome State Fault Refusal := .next (respond (.rdata (s.preambleMs.setWidth 32)) s)

/-- WR TAIL_MS, in every state (45_host_bus R364). -/
def execWrTailMs (w : Word) (s : State) : Host.Outcome State Fault Refusal :=
  .next (respond .none { s with tailMs := operandMs w })

/-- RD TAIL_MS (45_host_bus R365). -/
def execRdTailMs (s : State) : Host.Outcome State Fault Refusal := .next (respond (.rdata (s.tailMs.setWidth 32)) s)

/-- WR PTT_LEAD_MS, in every state (45_host_bus R364). -/
def execWrPttLeadMs (w : Word) (s : State) : Host.Outcome State Fault Refusal :=
  .next (respond .none { s with pttLeadMs := operandMs w })

/-- RD PTT_LEAD_MS (45_host_bus R365). -/
def execRdPttLeadMs (s : State) : Host.Outcome State Fault Refusal := .next (respond (.rdata (s.pttLeadMs.setWidth 32)) s)

/-- WR PTT_TRAIL_MS, in every state (45_host_bus R364). -/
def execWrPttTrailMs (w : Word) (s : State) : Host.Outcome State Fault Refusal :=
  .next (respond .none { s with pttTrailMs := operandMs w })

/-- RD PTT_TRAIL_MS (45_host_bus R365). -/
def execRdPttTrailMs (s : State) : Host.Outcome State Fault Refusal := .next (respond (.rdata (s.pttTrailMs.setWidth 32)) s)

/-! ## Observation registers (45_host_bus R370-R374) -/

/-- RD PHASE (45_host_bus R370). -/
def execRdPhase (s : State) : Host.Outcome State Fault Refusal := .next (respond (.rdata s.phaseWord) s)

/-- RD PARAM0 for given parameters (45_host_bus R371). -/
def execRdParam0For (P : Params) (s : State) : Host.Outcome State Fault Refusal :=
  .next (respond (.rdata (param0Word P)) s)

/-- RD PARAM0 (45_host_bus R371). -/
def execRdParam0 (s : State) : Host.Outcome State Fault Refusal := execRdParam0For Config.block s

/-- RD PARAM1 for given parameters (45_host_bus R371). -/
def execRdParam1For (P : Params) (s : State) : Host.Outcome State Fault Refusal :=
  .next (respond (.rdata (param1Word P)) s)

/-- RD PARAM1 (45_host_bus R371). -/
def execRdParam1 (s : State) : Host.Outcome State Fault Refusal := execRdParam1For Config.block s

/-- RD SAMPLE_COUNT (45_host_bus R372). -/
def execRdSampleCount (s : State) : Host.Outcome State Fault Refusal := .next (respond (.rdata s.sampleCount) s)

/-- RD TIMERS (45_host_bus R373). -/
def execRdTimers (s : State) : Host.Outcome State Fault Refusal := .next (respond (.rdata s.timersWord) s)

/-- RD ENC_POS (45_host_bus R374). -/
def execRdEncPos (s : State) : Host.Outcome State Fault Refusal := .next (respond (.rdata s.encPosWord) s)

/-! ## Frame buffer (45_host_bus R376, R377) -/

/-- What RD BUF[i] leaves, for given parameters; an index with no entry is an unmapped offset (45_host_bus R350, R377; log 15). -/
def readBuf (P : Params) (i : BitVec 9) (s : State) : State :=
  if i.toNat < P.bodyMax then respond (.rdata ((s.bufByte i.toNat).setWidth 32)) s else badRead s

/-- What WR BUF[i] leaves, for given parameters; an index with no entry is an unmapped offset (45_host_bus R351, R376; log 15). -/
def writeBuf (P : Params) (i : BitVec 9) (w : Word) (s : State) : State :=
  if i.toNat < P.bodyMax then respond .none (unlessBusy (fun s => s.storeBuf i.toNat (operandByte w)) s) else badWrite s

/-- RD BUF[i] for given parameters (45_host_bus R377). -/
def execRdBufFor (P : Params) (i : BitVec 9) (s : State) : Host.Outcome State Fault Refusal := .next (readBuf P i s)

/-- RD BUF[i] (45_host_bus R377). -/
def execRdBuf (i : BitVec 9) (s : State) : Host.Outcome State Fault Refusal := execRdBufFor Config.block i s

/-- WR BUF[i] for given parameters (45_host_bus R376). -/
def execWrBufFor (P : Params) (i : BitVec 9) (w : Word) (s : State) : Host.Outcome State Fault Refusal :=
  .next (writeBuf P i w s)

/-- WR BUF[i] (45_host_bus R376). -/
def execWrBuf (i : BitVec 9) (w : Word) (s : State) : Host.Outcome State Fault Refusal := execWrBufFor Config.block i w s

end Sys2Proof.Machine
end

