-- ==== Sys2Proof/Machine/Reset.lean ====
section
/-! DEFINITION. EV RESET (70_reset_and_hazards R440) and the words that spell no operation (30_encoding R143). -/

namespace Sys2Proof.Machine

/-- What EV RESET leaves, for given parameters: every register and field at its reset value, every BUF entry a new draw. The arrivals
still waiting belong to the environment and stay (log 1, log 16). -/
def resetBlock (P : Params) (s : State) : State :=
  { State.resetFor P with inbox := s.inbox, draws := s.draws + 1 }

/-- EV RESET for given parameters (70_reset_and_hazards R440). -/
def execEvResetFor (P : Params) (s : State) : Host.Outcome State Fault Refusal := .next (respond .none (resetBlock P s))

/-- EV RESET (70_reset_and_hazards R440). -/
def execEvReset (s : State) : Host.Outcome State Fault Refusal := execEvResetFor Config.block s

/-- A word that spells no operation is refused: no transition happens (30_encoding R143; log 6). -/
def execInvalid (op : BitVec 16) (_s : State) : Host.Outcome State Fault Refusal := .refused (.noSuchOperation op)

end Sys2Proof.Machine
end

