-- ==== Sys2Proof/Machine/Crc.lean ====
section
/-! DEFINITION. The CRC-16-CCITT generator (40_crc) and the host's operations on it. -/

namespace Sys2Proof.Machine

/-- The eight bits of a byte in the order they are sent and fed: bit 0 first (20_memory R102). -/
def lsbFirst (x : Byte) : List Bool := (List.range 8).map fun k => x.getLsbD k

/-- `crc_bit(c, b)` (40_crc R201); the condition reads `c` before the shift. -/
def crcBit (c : Half) (b : Bool) : Half :=
  if (c ^^^ (BitVec.ofBool b).setWidth 16) &&& 1 = 1 then (c >>> 1) ^^^ 0x8408 else c >>> 1

/-- `crc_byte(c, x)` (40_crc R202). -/
def crcByte (c : Half) (x : Byte) : Half := (lsbFirst x).foldl crcBit c

/-- `crc_of(B)` (40_crc R203). -/
def crcOf (body : List Byte) : Half := body.foldl crcByte 0xFFFF

/-- `fcs_of(B)` (40_crc R203). -/
def fcsOf (body : List Byte) : Half := ~~~crcOf body

/-- RD CRC (40_crc R209). -/
def execRdCrc (s : State) : Host.Outcome State Fault Refusal :=
  .next (respond (.rdata (s.crc.setWidth 32)) s)

/-- RD FCS (40_crc R210). -/
def execRdFcs (s : State) : Host.Outcome State Fault Refusal :=
  .next (respond (.rdata (s.fcs.setWidth 32)) s)

/-- WR CRC_DATA: feed one byte; locked while BUSY (40_crc R207). -/
def execWrCrcData (w : Word) (s : State) : Host.Outcome State Fault Refusal :=
  .next (respond .none (unlessBusy (fun s => { s with crc := crcByte s.crc (operandByte w) }) s))

/-- CRC_INIT (40_crc R208). -/
def execCrcInit (s : State) : Host.Outcome State Fault Refusal :=
  .next (respond .none (if s.busy then reject .busy s else { s with crc := 0xFFFF }))

end Sys2Proof.Machine
end

