-- ==== Sys2Proof/Machine/Framer.lean ====
section
/-! DEFINITION. The HDLC framer: flags, frame bytes, zero-bit stuffing and `next_bit()` (41_hdlc_framer). -/

namespace Sys2Proof.Machine

/-- The flag octet (41_hdlc_framer R231). -/
def flagByte : Byte := 0x7E

/-- `bits(ms) = ceil_div(6 x ms, 5)` (41_hdlc_framer R232). -/
def flagBits (ms : Nat) : Nat := ceilDiv (6 * ms) 5

/-- `nflags(ms) = ceil_div(bits(ms), 8)` (41_hdlc_framer R232). -/
def nflags (ms : Nat) : Nat := ceilDiv (flagBits ms) 8

/-- `enc_init()`, after the latches are set (41_hdlc_framer R233). -/
def encInit (s : State) : State :=
  { s with encState := .preamble, flagsLeft := s.latPre, bitPos := 0, byteIdx := 0, ones := 0, crc := 0xFFFF }

/-- `frame_byte(i)` (41_hdlc_framer R234): the body, FCS low byte, FCS high byte. Beyond L + 1 the spec gives no value (log 8). -/
def frameByte (s : State) (i : Nat) : Byte :=
  if i < s.latLen.toNat then s.bufByte i
  else if i = s.latLen.toNat then s.fcs.extractLsb' 0 8
  else if i = s.latLen.toNat + 1 then s.fcs.extractLsb' 8 8
  else Config.freeFrameByte i

/-- What `next_bit()` returns: a bit, or END. -/
inductive FramerOutput where
  | bit (b : Bool)
  | endOfSession
  deriving DecidableEq, Repr

/-- The first phase test of `next_bit()`: PREAMBLE is over (41_hdlc_framer R236). -/
def enterFrame (s : State) : State :=
  if s.encState = .preamble ∧ s.flagsLeft = 0 then { s with encState := .frame, byteIdx := 0, bitPos := 0, ones := 0 } else s

/-- The second phase test: FRAME is over, its last stuffed bit included (41_hdlc_framer R236, R240). -/
def enterTail (s : State) : State :=
  if s.encState = .frame ∧ s.ones ≠ 5 ∧ s.byteIdx.toNat = s.latLen.toNat + 2 then
    { s with encState := .tail, flagsLeft := s.latTail, bitPos := 0 }
  else s

/-- The third phase test: TAIL is over (41_hdlc_framer R236). -/
def enterDone (s : State) : State :=
  if s.encState = .tail ∧ s.flagsLeft = 0 then { s with encState := .done } else s

/-- A bit of a flag, never stuffed (41_hdlc_framer R236, PREAMBLE and TAIL). -/
def flagBitStep (s : State) : FramerOutput × State :=
  (.bit (flagByte.getLsbD s.bitPos.toNat),
    if s.bitPos = 7 then { s with bitPos := 0, flagsLeft := s.flagsLeft - 1 } else { s with bitPos := s.bitPos + 1 })

/-- The stuffed 0 (41_hdlc_framer R239). -/
def stuffedBitStep (s : State) : FramerOutput × State := (.bit false, { s with ones := 0 })

/-- A body bit is fed to the CRC generator as it is emitted; FCS bits are not (41_hdlc_framer R238). -/
def feedCrc (b : Bool) (s : State) : State :=
  if s.byteIdx.toNat < s.latLen.toNat then { s with crc := crcBit s.crc b } else s

/-- Move to the next bit; at the end of the body latch the FCS (41_hdlc_framer R236, R238). -/
def advanceBit (s : State) : State :=
  if s.bitPos = 7 then
    if s.byteIdx + 1 = s.latLen then { s with bitPos := 0, byteIdx := s.byteIdx + 1, fcs := ~~~s.crc }
    else { s with bitPos := 0, byteIdx := s.byteIdx + 1 }
  else { s with bitPos := s.bitPos + 1 }

/-- The zero-bit-stuff detector (41_hdlc_framer R235). -/
def countOnes (b : Bool) (s : State) : State := { s with ones := if b then s.ones + 1 else 0 }

/-- The bit of the frame at the framer's position. -/
def State.frameBit (s : State) : Bool := (frameByte s s.byteIdx.toNat).getLsbD s.bitPos.toNat

/-- A data bit of the frame (41_hdlc_framer R236, FRAME). -/
def frameBitStep (s : State) : FramerOutput × State :=
  (.bit s.frameBit, countOnes s.frameBit (advanceBit (feedCrc s.frameBit s)))

/-- The phase tests of `next_bit()`, in order. -/
def framerPhase (s : State) : State := enterDone (enterTail (enterFrame s))

/-- The bit of the phase the framer is in. -/
def framerEmit (s : State) : FramerOutput × State :=
  match s.encState with
  | .idle => (.endOfSession, s)
  | .preamble => flagBitStep s
  | .frame => if s.ones = 5 then stuffedBitStep s else frameBitStep s
  | .tail => flagBitStep s
  | .done => (.endOfSession, s)

/-- `next_bit()` (41_hdlc_framer R236). -/
def nextBit (s : State) : FramerOutput × State := framerEmit (framerPhase s)

end Sys2Proof.Machine
end

