-- ==== Sys2Proof/Machine/Modulator.lean ====
section
/-! DEFINITION. The NRZI encoder (42_nrzi), the AFSK tone generator (43_afsk) and EV SAMPLE_STROBE. -/

namespace Sys2Proof.Machine

/-- `nrzi(t, b)` (42_nrzi R270): a 0 toggles the tone, a 1 holds it. -/
def nrzi (t : Tone) (b : Bool) : Tone :=
  match b, t with
  | true, t => t
  | false, .mark => .space
  | false, .space => .mark

/-- The phase increment of a tone (42_nrzi R273). -/
def toneIncrement (P : Params) : Tone → Half
  | .mark => P.dmark
  | .space => P.dspace

/-- The sequencer state that names a framer phase (43_afsk R284, R285); a phase in which no bit is returned names none. -/
def txStateOf (phase : EncState) (current : SeqState) : SeqState :=
  match phase with
  | .idle => current
  | .preamble => .txPreamble
  | .frame => .txFrame
  | .tail => .txTail
  | .done => current

/-- The end of the bit stream: PTT_RELEASE (43_afsk R284). -/
def enterRelease (s : State) : State := { s with seqState := .pttRelease, drained := false }

/-- A bit of the stream selects the tone of its interval (43_afsk R284). -/
def modulateBit (P : Params) (b : Bool) (s : State) : State :=
  { s with
    tone := nrzi s.tone b
    phaseInc := toneIncrement P (nrzi s.tone b)
    seqState := txStateOf s.encState s.seqState }

/-- `load_bit()` (43_afsk R284). -/
def loadBit (P : Params) (s : State) : State :=
  let t := { (nextBit s).2 with sampleIndex := 0 }
  match (nextBit s).1 with
  | .endOfSession => enterRelease t
  | .bit b => modulateBit P b t

/-- `LUT[phase_acc[15:8]]` (43_afsk R282). With 256 entries every index is in the table (log 9). -/
def lutSample (P : Params) (phase : Half) : Byte := P.lut.getD (phase.extractLsb' 8 8).toNat 0

/-- `one_sample()`: the accumulator advances first, then the sample is read (43_afsk R286). -/
def oneSample (P : Params) (s : State) : Byte × State :=
  (lutSample P (s.phaseAcc + s.phaseInc),
    { s with
      phaseAcc := s.phaseAcc + s.phaseInc
      sampleIndex := s.sampleIndex + 1
      sampleCount := s.sampleCount + 1 })

/-- After the last sample of a bit interval the next bit is loaded (43_afsk R290). -/
def atBitBoundary (P : Params) (s : State) : State := if s.sampleIndex.toNat = P.spb then loadBit P s else s

/-- What a strobe leaves, for given parameters (43_afsk R290). -/
def sampleStrobe (P : Params) (s : State) : State :=
  if s.transmitting then
    atBitBoundary P (respond (.sample (oneSample P s).1) (oneSample P s).2)
  else respond .none s

/-- EV SAMPLE_STROBE for given parameters (43_afsk R290). -/
def execEvSampleStrobeFor (P : Params) (s : State) : Host.Outcome State Fault Refusal := .next (sampleStrobe P s)

/-- EV SAMPLE_STROBE (43_afsk R290). -/
def execEvSampleStrobe (s : State) : Host.Outcome State Fault Refusal := execEvSampleStrobeFor Config.block s

end Sys2Proof.Machine
end

