-- ==== Sys2Proof/Machine/Sequencer.lean ====
section
/-! DEFINITION. The PTT sequencer: SEND, CANCEL and the events TIME_TICK, SINK_DRAINED and SINK_FAULT (44_ptt_sequencer). -/

namespace Sys2Proof.Machine

/-! ## Beginning and ending a session -/

/-- The latches and counters a session starts from, the first lines of `start_session()` (44_ptt_sequencer R312). -/
def latchSession (s : State) : State :=
  { s with
    latLen := s.frameLen
    latPre := BitVec.ofNat 8 (nflags s.preambleMs.toNat)
    latTail := BitVec.ofNat 8 (nflags s.tailMs.toNat)
    latTrail := s.pttTrailMs
    leadCnt := s.pttLeadMs
    trailCnt := 0 }

/-- The remaining lines of `start_session()`, after `enc_init()`: the PTT line goes to its active level (44_ptt_sequencer R312). -/
def keyTransmitter (s : State) : State :=
  { s with
    tone := Tone.ofInit s.nrziInit
    sampleIndex := 0
    sampleCount := 0
    drained := false
    pttAsserted := true
    seqState := .pttAssert }

/-- `start_session()` (44_ptt_sequencer R312). -/
def startSession (s : State) : State := keyTransmitter (encInit (latchSession s))

/-- What both ends of a session do: the PTT line goes inactive, sequencer and framer are idle again
(44_ptt_sequencer R320, R321). -/
def releaseTransmitter (s : State) : State :=
  { s with pttAsserted := false, seqState := .ready, encState := .idle, drained := false, cancelPend := false }

/-- `end_session()`, the normal end (44_ptt_sequencer R320). -/
def endSession (s : State) : State := { releaseTransmitter s with evDone := true }

/-- `abort_session()`, the end by a sink fault (44_ptt_sequencer R321). -/
def abortSession (s : State) : State :=
  reject .audioFault { releaseTransmitter s with leadCnt := 0, trailCnt := 0 }

/-! ## Commands -/

/-- The configuration SEND accepts (44_ptt_sequencer R311, R313). -/
def State.configLegal (s : State) : Bool :=
  (Config.preambleMin ≤ s.preambleMs.toNat && s.preambleMs.toNat ≤ Config.preambleMax) &&
    (Config.tailMin ≤ s.tailMs.toNat && s.tailMs.toNat ≤ Config.tailMax)

/-- The body lengths SEND accepts (44_ptt_sequencer R311, R313). -/
def State.lengthLegal (P : Params) (s : State) : Bool :=
  P.bodyMin ≤ s.frameLen.toNat && s.frameLen.toNat ≤ P.bodyMax

/-- SEND: configuration, then length, then BUSY (44_ptt_sequencer R311). -/
def sendCommand (P : Params) (s : State) : State :=
  if !s.configLegal then reject .badConfig s
  else if !s.lengthLegal P then reject .badLength s
  else if s.busy then reject .busy s
  else startSession s

/-- SEND for given parameters (44_ptt_sequencer R311). -/
def execSendFor (P : Params) (s : State) : Host.Outcome State Fault Refusal := .next (respond .none (sendCommand P s))

/-- SEND (44_ptt_sequencer R311). -/
def execSend (s : State) : Host.Outcome State Fault Refusal := execSendFor Config.block s

/-- CANCEL (44_ptt_sequencer R314). -/
def execCancel (s : State) : Host.Outcome State Fault Refusal :=
  .next (respond .none (if s.busy then { s with cancelPend := true } else s))

/-! ## Events -/

/-- One tick of the lead wait (44_ptt_sequencer R315). -/
def countLead (s : State) : State := { s with leadCnt := s.leadCnt - 1 }

/-- One tick of the trail wait (44_ptt_sequencer R315). -/
def countTrail (s : State) : State := { s with trailCnt := s.trailCnt - 1 }

/-- The drain report starts the trail wait (44_ptt_sequencer R318). -/
def noteDrain (s : State) : State := { s with drained := true, trailCnt := s.latTrail }

/-- What a tick leaves, for given parameters (44_ptt_sequencer R315). -/
def timeTick (P : Params) (s : State) : State :=
  match s.seqState with
  | .ready => s
  | .pttAssert => if s.leadCnt = 0 then loadBit P s else countLead s
  | .txPreamble => s
  | .txFrame => s
  | .txTail => s
  | .pttRelease =>
    if s.drained then
      if s.trailCnt = 0 then endSession s else countTrail s
    else s

/-- EV TIME_TICK for given parameters (44_ptt_sequencer R315). -/
def execEvTimeTickFor (P : Params) (s : State) : Host.Outcome State Fault Refusal := .next (respond .none (timeTick P s))

/-- EV TIME_TICK (44_ptt_sequencer R315). -/
def execEvTimeTick (s : State) : Host.Outcome State Fault Refusal := execEvTimeTickFor Config.block s

/-- EV SINK_DRAINED (44_ptt_sequencer R318). -/
def execEvSinkDrained (s : State) : Host.Outcome State Fault Refusal :=
  .next (respond .none
    (if s.seqState = .pttRelease ∧ s.drained = false then noteDrain s else s))

/-- EV SINK_FAULT (44_ptt_sequencer R319). -/
def execEvSinkFault (s : State) : Host.Outcome State Fault Refusal :=
  .next (respond .none (if s.busy then abortSession s else s))

end Sys2Proof.Machine
end

