-- ==== Sys2Proof/Machine/Dispatch.lean ====
section
/-! DEFINITION. One arm for each constructor of Instr. -/

namespace Sys2Proof.Machine

def exec (i : Instr) (s : State) : Host.Outcome State Fault Refusal :=
  match i with
  | .rdCtrl => Sys2Proof.Machine.execRdCtrl s
  | .wrCtrl w => Sys2Proof.Machine.execWrCtrl w s
  | .rdStatus => Sys2Proof.Machine.execRdStatus s
  | .wrStatus w => Sys2Proof.Machine.execWrStatus w s
  | .rdEvents => Sys2Proof.Machine.execRdEvents s
  | .wrEvents w => Sys2Proof.Machine.execWrEvents w s
  | .rdCmd => Sys2Proof.Machine.execRdCmd s
  | .send => Sys2Proof.Machine.execSend s
  | .cancel => Sys2Proof.Machine.execCancel s
  | .crcInit => Sys2Proof.Machine.execCrcInit s
  | .badCmd w => Sys2Proof.Machine.execBadCmd w s
  | .rdFrameLen => Sys2Proof.Machine.execRdFrameLen s
  | .wrFrameLen w => Sys2Proof.Machine.execWrFrameLen w s
  | .rdPreambleMs => Sys2Proof.Machine.execRdPreambleMs s
  | .wrPreambleMs w => Sys2Proof.Machine.execWrPreambleMs w s
  | .rdTailMs => Sys2Proof.Machine.execRdTailMs s
  | .wrTailMs w => Sys2Proof.Machine.execWrTailMs w s
  | .rdPttLeadMs => Sys2Proof.Machine.execRdPttLeadMs s
  | .wrPttLeadMs w => Sys2Proof.Machine.execWrPttLeadMs w s
  | .rdPttTrailMs => Sys2Proof.Machine.execRdPttTrailMs s
  | .wrPttTrailMs w => Sys2Proof.Machine.execWrPttTrailMs w s
  | .rdCrc => Sys2Proof.Machine.execRdCrc s
  | .wrCrc w => Sys2Proof.Machine.execWrCrc w s
  | .rdCrcData => Sys2Proof.Machine.execRdCrcData s
  | .wrCrcData w => Sys2Proof.Machine.execWrCrcData w s
  | .rdFcs => Sys2Proof.Machine.execRdFcs s
  | .wrFcs w => Sys2Proof.Machine.execWrFcs w s
  | .rdPhase => Sys2Proof.Machine.execRdPhase s
  | .wrPhase w => Sys2Proof.Machine.execWrPhase w s
  | .rdParam0 => Sys2Proof.Machine.execRdParam0 s
  | .wrParam0 w => Sys2Proof.Machine.execWrParam0 w s
  | .rdParam1 => Sys2Proof.Machine.execRdParam1 s
  | .wrParam1 w => Sys2Proof.Machine.execWrParam1 w s
  | .rdSampleCount => Sys2Proof.Machine.execRdSampleCount s
  | .wrSampleCount w => Sys2Proof.Machine.execWrSampleCount w s
  | .rdTimers => Sys2Proof.Machine.execRdTimers s
  | .wrTimers w => Sys2Proof.Machine.execWrTimers w s
  | .rdEncPos => Sys2Proof.Machine.execRdEncPos s
  | .wrEncPos w => Sys2Proof.Machine.execWrEncPos w s
  | .rdBuf k => Sys2Proof.Machine.execRdBuf k s
  | .wrBuf k w => Sys2Proof.Machine.execWrBuf k w s
  | .rdUnmapped off => Sys2Proof.Machine.execRdUnmapped off s
  | .wrUnmapped off w => Sys2Proof.Machine.execWrUnmapped off w s
  | .rdMisaligned off => Sys2Proof.Machine.execRdMisaligned off s
  | .wrMisaligned off w => Sys2Proof.Machine.execWrMisaligned off w s
  | .evReset => Sys2Proof.Machine.execEvReset s
  | .evSampleStrobe => Sys2Proof.Machine.execEvSampleStrobe s
  | .evTimeTick => Sys2Proof.Machine.execEvTimeTick s
  | .evSinkDrained => Sys2Proof.Machine.execEvSinkDrained s
  | .evSinkFault => Sys2Proof.Machine.execEvSinkFault s
  | .invalid op => Sys2Proof.Machine.execInvalid op s

end Sys2Proof.Machine
end

