-- ==== Sys2Proof/Machine/Step.lean ====
section
/-! DEFINITION. One step: the oldest arrival is decoded and performed (00_scope R16, 20_memory R111). -/

namespace Sys2Proof.Machine

/-- One transition. Without an arrival nothing happens (60_exceptions R419; log 4). -/
def step (s : State) : Host.Outcome State Fault Refusal :=
  match s.inbox with
  | [] => .next s
  | o :: rest =>
    match decode Config.block o with
    | .ok i => exec i { s with inbox := rest }
    | .error _ => .refused .malformedArrival

/-- The state with the operation of a table word as the oldest arrival, the place `step` takes its next operation from. -/
def State.withFetchWord (s : State) (nbits w : Nat) : State :=
  { s with inbox := Operation.ofTableWord nbits w :: s.inbox }

end Sys2Proof.Machine
end

