-- ==== Sys2Proof/Machine/Assembly.lean ====
section
/-! DEFINITION. The lines of a test program (30_encoding R149) and the expansions of the pseudo-instructions (R150), as
structured terms: each line means the operations it expands to and nothing else. -/

namespace Sys2Proof.Machine

/-- One line of a program. `imm` is an unsigned 32-bit value. -/
inductive AsmLine where
  /-- `RD <reg>` -/
  | rd (r : Reg)
  /-- `WR <reg>, <imm>` -/
  | wr (r : Reg) (imm : Word)
  /-- `RD BUF[<i>]` -/
  | rdBuf (i : BitVec 9)
  /-- `WR BUF[<i>], <imm>` -/
  | wrBuf (i : BitVec 9) (imm : Word)
  /-- `RD @<off>` -/
  | rdAt (off : Offset)
  /-- `WR @<off>, <imm>` -/
  | wrAt (off : Offset) (imm : Word)
  /-- `EV <e>` -/
  | ev (e : Event)
  /-- `SEND` -/
  | send
  /-- `CANCEL` -/
  | cancel
  /-- `CRCINIT` -/
  | crcInit
  /-- `CRCB <b>` -/
  | crcB (imm : Word)
  /-- `CLREV <m>` -/
  | clrEv (imm : Word)
  /-- `LOADBUF <b0>, ..., <bn-1>` -/
  | loadBuf (bytes : List Word)
  /-- `LOADFRAME <b0>, ..., <bn-1>` -/
  | loadFrame (bytes : List Word)
  /-- `EV <e> * <n>` -/
  | evTimes (e : Event) (n : Nat)
  deriving DecidableEq, Repr

/-- `RD <reg>`, `RD @<off>`: OP 0x0000 + offset (30_encoding R149). -/
def asmRead (off : Offset) : Operation := ⟨readWord off, none⟩

/-- `WR <reg>, <imm>`, `WR @<off>, <imm>`: OP 0x4000 + offset (30_encoding R149). -/
def asmWrite (off : Offset) (imm : Word) : Operation := ⟨writeWord off, some imm⟩

/-- `EV <e>` (30_encoding R149). -/
def asmEvent (e : Event) : Operation := ⟨eventWord e, none⟩

/-- `WR BUF[i], b0`, `WR BUF[i+1], b1`, ... (30_encoding R150). -/
def asmLoad : Nat → List Word → List Operation
  | _, [] => []
  | i, b :: bs => asmWrite (bufOffset (BitVec.ofNat 9 i)) b :: asmLoad (i + 1) bs

/-- The operations a line stands for (30_encoding R149, R150). -/
def AsmLine.expand : AsmLine → List Operation
  | .rd r => [asmRead r.offset]
  | .wr r imm => [asmWrite r.offset imm]
  | .rdBuf i => [asmRead (bufOffset i)]
  | .wrBuf i imm => [asmWrite (bufOffset i) imm]
  | .rdAt off => [asmRead off]
  | .wrAt off imm => [asmWrite off imm]
  | .ev e => [asmEvent e]
  | .send => [asmWrite Reg.cmd.offset 1]
  | .cancel => [asmWrite Reg.cmd.offset 2]
  | .crcInit => [asmWrite Reg.cmd.offset 3]
  | .crcB imm => [asmWrite Reg.crcData.offset imm]
  | .clrEv imm => [asmWrite Reg.events.offset imm]
  | .loadBuf bytes => asmLoad 0 bytes
  | .loadFrame bytes => asmLoad 0 bytes ++ [asmWrite Reg.frameLen.offset (BitVec.ofNat 32 bytes.length)]
  | .evTimes e n => List.replicate n (asmEvent e)

/-- A program is its lines in order (30_encoding R151). -/
def assemble (lines : List AsmLine) : List Operation := lines.flatMap AsmLine.expand

end Sys2Proof.Machine
end

