-- ==== Sys2Proof/Machine/AsmText.lean ====
section
/-! DEFINITION. The written form of a test program's lines (30_encoding R149, R150): characters to structured lines. Text that
has none of the forms is rejected. DESIGN CHOICE (log 18): what R149 leaves open of the notation, marked where it is settled. -/

namespace Sys2Proof.Machine

/-- The name of a register (10_state R57). -/
def regName : Reg → String
  | .ctrl => "CTRL"
  | .status => "STATUS"
  | .events => "EVENTS"
  | .cmd => "CMD"
  | .frameLen => "FRAME_LEN"
  | .preambleMs => "PREAMBLE_MS"
  | .tailMs => "TAIL_MS"
  | .pttLeadMs => "PTT_LEAD_MS"
  | .pttTrailMs => "PTT_TRAIL_MS"
  | .crc => "CRC"
  | .crcData => "CRC_DATA"
  | .fcs => "FCS"
  | .phase => "PHASE"
  | .param0 => "PARAM0"
  | .param1 => "PARAM1"
  | .sampleCount => "SAMPLE_COUNT"
  | .timers => "TIMERS"
  | .encPos => "ENC_POS"

/-- The name of an event in a program (30_encoding R149). -/
def eventName : Event → String
  | .reset => "RESET"
  | .sampleStrobe => "SAMPLE"
  | .timeTick => "TICK"
  | .sinkDrained => "DRAINED"
  | .sinkFault => "FAULT"

def regOfName? (t : List Char) : Option Reg := Reg.all.find? fun r => (regName r).toList == t

def eventOfName? (t : List Char) : Option Event := Event.all.find? fun e => (eventName e).toList == t

/-! ## Literals -/

/-- The value of a digit, `0`-`9`, `A`-`F` or `a`-`f`. DESIGN CHOICE (log 18): both cases of a hexadecimal digit are read. -/
def digitValue? (c : Char) : Option Nat :=
  let n := c.toNat
  if 48 ≤ n ∧ n ≤ 57 then some (n - 48)
  else if 65 ≤ n ∧ n ≤ 70 then some (n - 55)
  else if 97 ≤ n ∧ n ≤ 102 then some (n - 87)
  else none

/-- Digits of a base, most significant first, continuing the value read so far. -/
def digitsValue? (base : Nat) : (soFar : Nat) → List Char → Option Nat
  | n, [] => some n
  | n, c :: cs =>
    match digitValue? c with
    | some d => if d < base then digitsValue? base (base * n + d) cs else none
    | none => none

/-- A decimal, `0x` hexadecimal or `'c'` ASCII literal (30_encoding R149). DESIGN CHOICE (log 18): `<i>`, `<off>` and `<n>` are
read as these literals too. -/
def literal? : List Char → Option Nat
  | [] => none
  | ['\'', c, '\''] => if c.toNat < 128 then some c.toNat else none
  | '0' :: 'x' :: c :: cs => digitsValue? 16 0 (c :: cs)
  | c :: cs => digitsValue? 10 0 (c :: cs)

/-- `<imm>`: a literal taken as an unsigned 32-bit value (30_encoding R149). DESIGN CHOICE (log 18): a literal of 2^32 or more is
rejected and not truncated. -/
def imm? (t : List Char) : Option Word :=
  match literal? t with
  | some n => if n < 2 ^ 32 then some (BitVec.ofNat 32 n) else none
  | none => none

/-- `<i>` of `BUF[<i>]`: a slot of the window's upper half (30_encoding R144: i in 0..511). DESIGN CHOICE (log 18): an index of 512
or more is rejected and not truncated. -/
def index? (t : List Char) : Option (BitVec 9) :=
  match literal? t with
  | some n => if n < 512 then some (BitVec.ofNat 9 n) else none
  | none => none

/-- `<off>` of `@<off>`, 12 bits (30_encoding R144). DESIGN CHOICE (log 18): an offset of 0x1000 or more is rejected and not
truncated. -/
def offset? (t : List Char) : Option Offset :=
  match literal? t with
  | some n => if n < 0x1000 then some (BitVec.ofNat 12 n) else none
  | none => none

/-! ## Tokens -/

/-- The word collected so far, if any, put behind the words before it. -/
def closeToken (cur : List Char) (done : List (List Char)) : List (List Char) := if cur = [] then done else done ++ [cur]

/-- The words of a line: `;` begins a comment (30_encoding R149). DESIGN CHOICE (log 18): blanks, tabs and commas part words, any
number of them and without distinction; a quoted character, be it `;` or a comma, is part of its word. -/
def tokens : (cur : List Char) → (done : List (List Char)) → List Char → List (List Char)
  | cur, done, [] => closeToken cur done
  | cur, done, '\'' :: c :: '\'' :: cs => tokens (cur ++ ['\'', c, '\'']) done cs
  | cur, done, c :: cs =>
    if c = ';' then closeToken cur done
    else if c = ' ' ∨ c = '\t' ∨ c = ',' then tokens [] (closeToken cur done) cs
    else tokens (cur ++ [c]) done cs

/-! ## Lines -/

/-- What follows RD or WR: a register, a buffer entry or a raw offset. -/
inductive AsmTarget where
  | reg (r : Reg)
  | bufEntry (i : BitVec 9)
  | offset (off : Offset)
  deriving DecidableEq, Repr

/-- `<i>]`, the rest of a buffer entry's name. -/
def closeBracket? (t : List Char) : Option (BitVec 9) :=
  if t.getLast? = some ']' then index? t.dropLast else none

def target? : List Char → Option AsmTarget
  | '@' :: t => (offset? t).map .offset
  | 'B' :: 'U' :: 'F' :: '[' :: t => (closeBracket? t).map .bufEntry
  | t => (regOfName? t).map .reg

def AsmTarget.read : AsmTarget → AsmLine
  | .reg r => .rd r
  | .bufEntry i => .rdBuf i
  | .offset off => .rdAt off

def AsmTarget.write (imm : Word) : AsmTarget → AsmLine
  | .reg r => .wr r imm
  | .bufEntry i => .wrBuf i imm
  | .offset off => .wrAt off imm

/-- Every literal of a list, or nothing. -/
def imms? : List (List Char) → Option (List Word)
  | [] => some []
  | t :: ts =>
    match imm? t, imms? ts with
    | some w, some ws => some (w :: ws)
    | _, _ => none

/-- Every literal of the list of a LOADBUF or LOADFRAME. DESIGN CHOICE (log 18): at least one and no more than the window has
slots. -/
def loadList? (ts : List (List Char)) : Option (List Word) :=
  if ts = [] ∨ 512 < ts.length then none else imms? ts

/-- A line's words. DESIGN CHOICE (log 18): a line without words is a comment or empty and stands for no operation. -/
def lineOfTokens? : List (List Char) → Option (List AsmLine)
  | [] => some []
  | [m] =>
    if m = "SEND".toList then some [.send]
    else if m = "CANCEL".toList then some [.cancel]
    else if m = "CRCINIT".toList then some [.crcInit]
    else none
  | [m, a] =>
    if m = "RD".toList then (target? a).map fun t => [t.read]
    else if m = "EV".toList then (eventOfName? a).map fun e => [.ev e]
    else if m = "CRCB".toList then (imm? a).map fun w => [.crcB w]
    else if m = "CLREV".toList then (imm? a).map fun w => [.clrEv w]
    else if m = "LOADBUF".toList then (loadList? [a]).map fun ws => [.loadBuf ws]
    else if m = "LOADFRAME".toList then (loadList? [a]).map fun ws => [.loadFrame ws]
    else none
  | m :: a :: b :: ts =>
    if m = "LOADBUF".toList then (loadList? (a :: b :: ts)).map fun ws => [.loadBuf ws]
    else if m = "LOADFRAME".toList then (loadList? (a :: b :: ts)).map fun ws => [.loadFrame ws]
    else
      match ts with
      | [] =>
        match target? a, imm? b with
        | some t, some w => if m = "WR".toList then some [t.write w] else none
        | _, _ => none
      | [c] =>
        match eventOfName? a, literal? c with
        | some e, some n => if m = "EV".toList ∧ b = ['*'] then some [.evTimes e n] else none
        | _, _ => none
      | _ => none

/-- One line of a program's text (30_encoding R149, R150). -/
def parseLine? (text : List Char) : Option (List AsmLine) := lineOfTokens? (tokens [] [] text)

/-- A program's text, line by line. -/
def parseProgram? : List String → Option (List AsmLine)
  | [] => some []
  | l :: ls =>
    match parseLine? l.toList, parseProgram? ls with
    | some a, some rest => some (a ++ rest)
    | _, _ => none

end Sys2Proof.Machine
end

