-- ==== Sys2Proof/Machine/HostInterface.lean ====
section
/-! DEFINITION. How operations come to the block from its surroundings: the register window in the host's address map
(20_memory R101, 00_scope R15), arrival one after the other (20_memory R111), and the order one implementation gives to
arrivals of the same instant (60_exceptions R411). -/

namespace Sys2Proof.Machine

/-- The window offset of a host address, if it lies in the window (20_memory R101). -/
def windowOffset (P : Params) (A : Nat) : Option Offset :=
  if P.base ≤ A ∧ A < P.base + 0x1000 then some (BitVec.ofNat 12 (A - P.base)) else none

/-- `MemRead(A, 4)` is `BusRead(A - BASE)` (00_scope R15). -/
def memRead (P : Params) (A : Nat) : Option Operation := (windowOffset P A).map fun off => ⟨readWord off, none⟩

/-- `MemWrite(A, 4, v)` is `BusWrite(A - BASE, v)` (00_scope R15). -/
def memWrite (P : Params) (A : Nat) (v : Word) : Option Operation :=
  (windowOffset P A).map fun off => ⟨writeWord off, some v⟩

/-- The place of an operation in the fixed order RESET, SINK_FAULT, host access, SAMPLE_STROBE, SINK_DRAINED, TIME_TICK
(60_exceptions R411); a word that is no operation comes last. -/
def Operation.rank (o : Operation) : Nat :=
  if opReserved o.op ≠ 0 then 6
  else if opClass o.op = 0b00 ∨ opClass o.op = 0b01 then 2
  else if opClass o.op = 0b10 then
    match decodeEvent o.op with
    | some .reset => 0
    | some .sinkFault => 1
    | some .sampleStrobe => 3
    | some .sinkDrained => 4
    | some .timeTick => 5
    | none => 6
  else 6

/-- Operations of one instant in that order, those of one rank as they came. -/
def serialise (ops : List Operation) : List Operation :=
  (List.range 7).flatMap fun r => ops.filter fun o => Operation.rank o == r

/-- Operations arrive in a given order, one of those the model admits (20_memory R111, 30_encoding R151). -/
def State.arrive (ops : List Operation) (s : State) : State := { s with inbox := s.inbox ++ ops }

/-- Operations arrive at the same instant at an implementation with the fixed order (60_exceptions R411; log 14). -/
def State.arriveTogether (ops : List Operation) (s : State) : State := s.arrive (serialise ops)

end Sys2Proof.Machine
end

