-- ==== Sys2Proof/Machine/OpcodeTable.lean ====
section
/-! DEFINITION. The machine-readable opcode map of 30_encoding R147 (spec/opcode_table.json), row by row, for statements that
hold the decoder against it. A word matches a row when (OP & mask) = pattern. -/

namespace Sys2Proof.Machine

/-- How a row looks at WDATA: the three commands fix it, BAD_CMD takes every other value, the rest take any or none. -/
inductive RowOperand where
  | any
  | exactly (w : Word)
  | otherCommand
  deriving DecidableEq, Repr

/-- A row of the table. -/
structure OpcodeRow where
  mnemonic : String
  pattern : BitVec 16
  mask : BitVec 16
  operand : RowOperand
  deriving DecidableEq, Repr

def OpcodeRow.hasWord (r : OpcodeRow) (op : BitVec 16) : Bool := op &&& r.mask == r.pattern

/-- The row's condition on WDATA holds. -/
def OpcodeRow.hasOperand (r : OpcodeRow) (w : Option Word) : Bool :=
  match r.operand with
  | .any => true
  | .exactly v => w == some v
  | .otherCommand => w != some 1 && w != some 2 && w != some 3

/-- Rows: registers and commands. -/
def registerRows : List OpcodeRow :=
  [⟨"RD_CTRL", 0x0000, 0xFFFF, .any⟩,
    ⟨"WR_CTRL", 0x4000, 0xFFFF, .any⟩,
    ⟨"RD_STATUS", 0x0004, 0xFFFF, .any⟩,
    ⟨"WR_STATUS__read-only", 0x4004, 0xFFFF, .any⟩,
    ⟨"RD_EVENTS", 0x0008, 0xFFFF, .any⟩,
    ⟨"WR_EVENTS", 0x4008, 0xFFFF, .any⟩,
    ⟨"RD_CMD__write-only", 0x000C, 0xFFFF, .any⟩,
    ⟨"SEND", 0x400C, 0xFFFF, .exactly 1⟩]
  ++ [⟨"CANCEL", 0x400C, 0xFFFF, .exactly 2⟩,
    ⟨"CRC_INIT", 0x400C, 0xFFFF, .exactly 3⟩,
    ⟨"BAD_CMD", 0x400C, 0xFFFF, .otherCommand⟩,
    ⟨"RD_FRAME_LEN", 0x0010, 0xFFFF, .any⟩,
    ⟨"WR_FRAME_LEN", 0x4010, 0xFFFF, .any⟩,
    ⟨"RD_PREAMBLE_MS", 0x0014, 0xFFFF, .any⟩,
    ⟨"WR_PREAMBLE_MS", 0x4014, 0xFFFF, .any⟩,
    ⟨"RD_TAIL_MS", 0x0018, 0xFFFF, .any⟩]
  ++ [⟨"WR_TAIL_MS", 0x4018, 0xFFFF, .any⟩,
    ⟨"RD_PTT_LEAD_MS", 0x001C, 0xFFFF, .any⟩,
    ⟨"WR_PTT_LEAD_MS", 0x401C, 0xFFFF, .any⟩,
    ⟨"RD_PTT_TRAIL_MS", 0x0020, 0xFFFF, .any⟩,
    ⟨"WR_PTT_TRAIL_MS", 0x4020, 0xFFFF, .any⟩,
    ⟨"RD_CRC", 0x0024, 0xFFFF, .any⟩,
    ⟨"WR_CRC__read-only", 0x4024, 0xFFFF, .any⟩,
    ⟨"RD_CRC_DATA__write-only", 0x0028, 0xFFFF, .any⟩]
  ++ [⟨"WR_CRC_DATA", 0x4028, 0xFFFF, .any⟩,
    ⟨"RD_FCS", 0x002C, 0xFFFF, .any⟩,
    ⟨"WR_FCS__read-only", 0x402C, 0xFFFF, .any⟩,
    ⟨"RD_PHASE", 0x0030, 0xFFFF, .any⟩,
    ⟨"WR_PHASE__read-only", 0x4030, 0xFFFF, .any⟩,
    ⟨"RD_PARAM0", 0x0034, 0xFFFF, .any⟩,
    ⟨"WR_PARAM0__read-only", 0x4034, 0xFFFF, .any⟩,
    ⟨"RD_PARAM1", 0x0038, 0xFFFF, .any⟩]
  ++ [⟨"WR_PARAM1__read-only", 0x4038, 0xFFFF, .any⟩,
    ⟨"RD_SAMPLE_COUNT", 0x003C, 0xFFFF, .any⟩,
    ⟨"WR_SAMPLE_COUNT__read-only", 0x403C, 0xFFFF, .any⟩,
    ⟨"RD_TIMERS", 0x0040, 0xFFFF, .any⟩,
    ⟨"WR_TIMERS__read-only", 0x4040, 0xFFFF, .any⟩,
    ⟨"RD_ENC_POS", 0x0044, 0xFFFF, .any⟩,
    ⟨"WR_ENC_POS__read-only", 0x4044, 0xFFFF, .any⟩]

/-- Rows: frame buffer. -/
def bufferRows : List OpcodeRow :=
  [⟨"RD_BUF_i", 0x0800, 0xFC03, .any⟩,
    ⟨"WR_BUF_i", 0x4800, 0xFC03, .any⟩,
    ⟨"RD_BUF_i", 0x0C00, 0xFF03, .any⟩,
    ⟨"WR_BUF_i", 0x4C00, 0xFF03, .any⟩,
    ⟨"RD_BUF_i", 0x0D00, 0xFFE3, .any⟩,
    ⟨"WR_BUF_i", 0x4D00, 0xFFE3, .any⟩]

/-- Rows: unmapped offsets. -/
def unmappedRows : List OpcodeRow :=
  [⟨"RD_unmapped", 0x0048, 0xFFFB, .any⟩,
    ⟨"WR_unmapped", 0x4048, 0xFFFB, .any⟩,
    ⟨"RD_unmapped", 0x0050, 0xFFF3, .any⟩,
    ⟨"WR_unmapped", 0x4050, 0xFFF3, .any⟩,
    ⟨"RD_unmapped", 0x0060, 0xFFE3, .any⟩,
    ⟨"WR_unmapped", 0x4060, 0xFFE3, .any⟩,
    ⟨"RD_unmapped", 0x0080, 0xFF83, .any⟩,
    ⟨"WR_unmapped", 0x4080, 0xFF83, .any⟩]
  ++ [⟨"RD_unmapped", 0x0100, 0xFF03, .any⟩,
    ⟨"WR_unmapped", 0x4100, 0xFF03, .any⟩,
    ⟨"RD_unmapped", 0x0200, 0xFE03, .any⟩,
    ⟨"WR_unmapped", 0x4200, 0xFE03, .any⟩,
    ⟨"RD_unmapped", 0x0400, 0xFC03, .any⟩,
    ⟨"WR_unmapped", 0x4400, 0xFC03, .any⟩,
    ⟨"RD_unmapped", 0x0D20, 0xFFE3, .any⟩,
    ⟨"WR_unmapped", 0x4D20, 0xFFE3, .any⟩]
  ++ [⟨"RD_unmapped", 0x0D40, 0xFFC3, .any⟩,
    ⟨"WR_unmapped", 0x4D40, 0xFFC3, .any⟩,
    ⟨"RD_unmapped", 0x0D80, 0xFF83, .any⟩,
    ⟨"WR_unmapped", 0x4D80, 0xFF83, .any⟩,
    ⟨"RD_unmapped", 0x0E00, 0xFE03, .any⟩,
    ⟨"WR_unmapped", 0x4E00, 0xFE03, .any⟩]

/-- Rows: misaligned offsets. -/
def misalignedRows : List OpcodeRow :=
  [⟨"RD_misaligned", 0x0001, 0xF001, .any⟩,
    ⟨"RD_misaligned", 0x0002, 0xF003, .any⟩,
    ⟨"WR_misaligned", 0x4001, 0xF001, .any⟩,
    ⟨"WR_misaligned", 0x4002, 0xF003, .any⟩]

/-- Rows: events. -/
def eventRows : List OpcodeRow :=
  [⟨"EV_RESET", 0x8000, 0xFFFF, .any⟩,
    ⟨"EV_SAMPLE_STROBE", 0x8001, 0xFFFF, .any⟩,
    ⟨"EV_TIME_TICK", 0x8002, 0xFFFF, .any⟩,
    ⟨"EV_SINK_DRAINED", 0x8003, 0xFFFF, .any⟩,
    ⟨"EV_SINK_FAULT", 0x8004, 0xFFFF, .any⟩]

/-- Rows: words that spell no operation. -/
def invalidRows : List OpcodeRow :=
  [⟨"INVALID", 0xC000, 0xC000, .any⟩,
    ⟨"INVALID", 0x1000, 0xF000, .any⟩,
    ⟨"INVALID", 0x2000, 0xE000, .any⟩,
    ⟨"INVALID", 0x5000, 0xF000, .any⟩,
    ⟨"INVALID", 0x6000, 0xE000, .any⟩,
    ⟨"INVALID", 0x9000, 0xF000, .any⟩,
    ⟨"INVALID", 0xA000, 0xE000, .any⟩,
    ⟨"INVALID", 0x8005, 0xFFFF, .any⟩]
  ++ [⟨"INVALID", 0x8006, 0xFFFE, .any⟩,
    ⟨"INVALID", 0x8008, 0xFFF8, .any⟩,
    ⟨"INVALID", 0x8010, 0xFFF0, .any⟩,
    ⟨"INVALID", 0x8020, 0xFFE0, .any⟩,
    ⟨"INVALID", 0x8040, 0xFFC0, .any⟩,
    ⟨"INVALID", 0x8080, 0xFF80, .any⟩,
    ⟨"INVALID", 0x8100, 0xFF00, .any⟩,
    ⟨"INVALID", 0x8200, 0xFE00, .any⟩]
  ++ [⟨"INVALID", 0x8400, 0xFC00, .any⟩,
    ⟨"INVALID", 0x8800, 0xF800, .any⟩]

/-- The whole table. -/
def opcodeRows : List OpcodeRow :=
  registerRows ++ bufferRows ++ unmappedRows ++ misalignedRows ++ eventRows ++ invalidRows

/-- The table's mnemonic of an instruction. -/
def mnemonicOf : Instr → String
  | .rdCtrl => "RD_CTRL"
  | .wrCtrl _ => "WR_CTRL"
  | .rdStatus => "RD_STATUS"
  | .wrStatus _ => "WR_STATUS__read-only"
  | .rdEvents => "RD_EVENTS"
  | .wrEvents _ => "WR_EVENTS"
  | .rdCmd => "RD_CMD__write-only"
  | .send => "SEND"
  | .cancel => "CANCEL"
  | .crcInit => "CRC_INIT"
  | .badCmd _ => "BAD_CMD"
  | .rdFrameLen => "RD_FRAME_LEN"
  | .wrFrameLen _ => "WR_FRAME_LEN"
  | .rdPreambleMs => "RD_PREAMBLE_MS"
  | .wrPreambleMs _ => "WR_PREAMBLE_MS"
  | .rdTailMs => "RD_TAIL_MS"
  | .wrTailMs _ => "WR_TAIL_MS"
  | .rdPttLeadMs => "RD_PTT_LEAD_MS"
  | .wrPttLeadMs _ => "WR_PTT_LEAD_MS"
  | .rdPttTrailMs => "RD_PTT_TRAIL_MS"
  | .wrPttTrailMs _ => "WR_PTT_TRAIL_MS"
  | .rdCrc => "RD_CRC"
  | .wrCrc _ => "WR_CRC__read-only"
  | .rdCrcData => "RD_CRC_DATA__write-only"
  | .wrCrcData _ => "WR_CRC_DATA"
  | .rdFcs => "RD_FCS"
  | .wrFcs _ => "WR_FCS__read-only"
  | .rdPhase => "RD_PHASE"
  | .wrPhase _ => "WR_PHASE__read-only"
  | .rdParam0 => "RD_PARAM0"
  | .wrParam0 _ => "WR_PARAM0__read-only"
  | .rdParam1 => "RD_PARAM1"
  | .wrParam1 _ => "WR_PARAM1__read-only"
  | .rdSampleCount => "RD_SAMPLE_COUNT"
  | .wrSampleCount _ => "WR_SAMPLE_COUNT__read-only"
  | .rdTimers => "RD_TIMERS"
  | .wrTimers _ => "WR_TIMERS__read-only"
  | .rdEncPos => "RD_ENC_POS"
  | .wrEncPos _ => "WR_ENC_POS__read-only"
  | .rdBuf _ => "RD_BUF_i"
  | .wrBuf _ _ => "WR_BUF_i"
  | .rdUnmapped _ => "RD_unmapped"
  | .wrUnmapped _ _ => "WR_unmapped"
  | .rdMisaligned _ => "RD_misaligned"
  | .wrMisaligned _ _ => "WR_misaligned"
  | .evReset => "EV_RESET"
  | .evSampleStrobe => "EV_SAMPLE_STROBE"
  | .evTimeTick => "EV_TIME_TICK"
  | .evSinkDrained => "EV_SINK_DRAINED"
  | .evSinkFault => "EV_SINK_FAULT"
  | .invalid _ => "INVALID"

end Sys2Proof.Machine
end

