-- ==== Sys2Proof/Machine/Parametric.lean ====
section
/-! DEFINITION. The machine of a block built with any parameters: the starred rows of 00_scope R10 as one argument `P` of
`exec`, `step`, the state after reset and the host's core. At `Config.block` it is the machine itself (Laws/Parametric.lean). -/

namespace Sys2Proof.Machine

/-- What an instruction does in the block built with `P`. The meanings that depend on no parameter are those of `exec`. -/
def execFor (P : Params) (i : Instr) (s : State) : Host.Outcome State Fault Refusal :=
  match i with
  | .rdCtrl => execRdCtrl s
  | .wrCtrl w => execWrCtrl w s
  | .rdStatus => execRdStatus s
  | .wrStatus w => execWrStatus w s
  | .rdEvents => execRdEvents s
  | .wrEvents w => execWrEvents w s
  | .rdCmd => execRdCmd s
  | .send => execSendFor P s
  | .cancel => execCancel s
  | .crcInit => execCrcInit s
  | .badCmd w => execBadCmd w s
  | .rdFrameLen => execRdFrameLen s
  | .wrFrameLen w => execWrFrameLen w s
  | .rdPreambleMs => execRdPreambleMs s
  | .wrPreambleMs w => execWrPreambleMs w s
  | .rdTailMs => execRdTailMs s
  | .wrTailMs w => execWrTailMs w s
  | .rdPttLeadMs => execRdPttLeadMs s
  | .wrPttLeadMs w => execWrPttLeadMs w s
  | .rdPttTrailMs => execRdPttTrailMs s
  | .wrPttTrailMs w => execWrPttTrailMs w s
  | .rdCrc => execRdCrc s
  | .wrCrc w => execWrCrc w s
  | .rdCrcData => execRdCrcData s
  | .wrCrcData w => execWrCrcData w s
  | .rdFcs => execRdFcs s
  | .wrFcs w => execWrFcs w s
  | .rdPhase => execRdPhase s
  | .wrPhase w => execWrPhase w s
  | .rdParam0 => execRdParam0For P s
  | .wrParam0 w => execWrParam0 w s
  | .rdParam1 => execRdParam1For P s
  | .wrParam1 w => execWrParam1 w s
  | .rdSampleCount => execRdSampleCount s
  | .wrSampleCount w => execWrSampleCount w s
  | .rdTimers => execRdTimers s
  | .wrTimers w => execWrTimers w s
  | .rdEncPos => execRdEncPos s
  | .wrEncPos w => execWrEncPos w s
  | .rdBuf k => execRdBufFor P k s
  | .wrBuf k w => execWrBufFor P k w s
  | .rdUnmapped off => execRdUnmapped off s
  | .wrUnmapped off w => execWrUnmapped off w s
  | .rdMisaligned off => execRdMisaligned off s
  | .wrMisaligned off w => execWrMisaligned off w s
  | .evReset => execEvResetFor P s
  | .evSampleStrobe => execEvSampleStrobeFor P s
  | .evTimeTick => execEvTimeTickFor P s
  | .evSinkDrained => execEvSinkDrained s
  | .evSinkFault => execEvSinkFault s
  | .invalid op => execInvalid op s

/-- One transition of the block built with `P`: `step` with its parameters given (00_scope R16). -/
def stepFor (P : Params) (s : State) : Host.Outcome State Fault Refusal :=
  match s.inbox with
  | [] => .next s
  | o :: rest =>
    match decode P o with
    | .ok i => execFor P i { s with inbox := rest }
    | .error _ => .refused .malformedArrival

/-- The block built with `P`, if `P` meets the constraints that a model must check before it builds (00_scope R11). -/
def coreFor? (P : Params) : Option Host.Core :=
  if P.wf then
    some { State := State, Fault := Fault, Refusal := Refusal, step := stepFor P, reset := State.resetFor P }
  else none

end Sys2Proof.Machine
end

