-- ==== Sys2Proof/Safety.lean ====
section
/-! DEFINITION. What counts as a safe state and a safe run, and the reference streams claims compare the framer with. -/

namespace Sys2Proof.Machine

/-! ## Relations between the state elements (10_state R78) -/

/-- Sequencer and framer states that belong together (10_state R78). -/
def phasesAgree : SeqState → EncState → Bool
  | .ready, e => e == .idle
  | .pttAssert, e => e == .preamble
  | .txPreamble, e => e == .preamble
  | .txFrame, e => e == .frame
  | .txTail, e => e == .tail
  | .pttRelease, e => e == .done

/-- The relations of 10_state R78. -/
structure State.Consistent (P : Params) (s : State) : Prop where
  phases : phasesAgree s.seqState s.encState = true
  drained_in_release : s.drained = true → s.seqState = .pttRelease
  cancel_while_busy : s.cancelPend = true → s.busy = true
  keyed_iff_busy : s.pttAsserted = s.busy
  lead_in_assert : s.leadCnt ≠ 0 → s.seqState = .pttAssert
  trail_after_drain : s.trailCnt ≠ 0 → s.seqState = .pttRelease ∧ s.drained = true
  ones_at_most_five : s.ones.toNat ≤ 5
  sample_in_bit : s.sampleIndex.toNat < P.spb

/-- The framer as `enc_init()` leaves it (41_hdlc_framer R233). -/
def State.framerFresh (s : State) : Prop :=
  s.encState = .preamble ∧ s.flagsLeft = s.latPre ∧ s.bitPos = 0 ∧ s.byteIdx = 0 ∧ s.ones = 0 ∧ s.crc = 0xFFFF

/-- The ranges of the latches, of the framer's position and of the phase increment (10_state R39, R41, R43, R49;
41_hdlc_framer R232; 44_ptt_sequencer R313), and that the framer is as `enc_init()` left it until the first bit is loaded. -/
structure State.InRange (P : Params) (s : State) : Prop where
  flags : s.flagsLeft.toNat ≤ 150
  bytes : s.byteIdx.toNat ≤ P.bodyMax + 2
  bytes_of_frame : s.encState = .frame → s.byteIdx.toNat ≤ s.latLen.toNat + 2
  body : s.busy = true → P.bodyMin ≤ s.latLen.toNat ∧ s.latLen.toNat ≤ P.bodyMax
  preamble : s.busy = true → 15 ≤ s.latPre.toNat ∧ s.latPre.toNat ≤ 150
  tail : s.busy = true → 2 ≤ s.latTail.toNat ∧ s.latTail.toNat ≤ 75
  fresh : s.seqState = .pttAssert → s.framerFresh
  increment : s.phaseInc = P.dmark ∨ s.phaseInc = P.dspace

/-- A safe state: relations, ranges and a frame buffer in canonical form. -/
structure State.Safe (P : Params) (s : State) : Prop where
  consistent : s.Consistent P
  inRange : s.InRange P
  buffer : Memory.wf P s.buf

/-- A safe transition puts out a sample only while the transmitter is keyed (44_ptt_sequencer R323). -/
def SafeTransition (s t : State) : Prop :=
  ∀ v, t.response = .sample v → s.pttAsserted = true ∧ t.pttAsserted = true

/-! ## Runs -/

/-- Perform instructions one after the other, stopping at the first that stops. -/
def performAll : List Instr → State → Host.Outcome State Fault Refusal
  | [], s => .next s
  | i :: is, s =>
    match exec i s with
    | .next t => performAll is t
    | .fault r => .fault r
    | .refused r => .refused r

/-- What `n` calls of `next_bit()` return, in order, and the state they leave. -/
def pullBits : Nat → State → List FramerOutput × State
  | 0, s => ([], s)
  | n + 1, s => ((nextBit s).1 :: (pullBits n (nextBit s).2).1, (pullBits n (nextBit s).2).2)

/-! ## Reference streams -/

/-- A flag in time order (41_hdlc_framer R231). -/
def flagStream : List Bool := [false, true, true, true, true, true, true, false]

/-- A number of whole flags (41_hdlc_framer R237, R241). -/
def flagsStream (n : Nat) : List Bool := (List.replicate n flagStream).flatten

/-- Zero-bit stuffing of a bit stream after `run` consecutive 1s: after five, a 0 is inserted, at the end of the stream too
(41_hdlc_framer R235, R240). -/
def stuff : (run : Nat) → List Bool → List Bool
  | run, [] => if run = 5 then [false] else []
  | run, b :: bs =>
    if run = 5 then false :: b :: stuff (if b then 1 else 0) bs
    else b :: stuff (if b then run + 1 else 0) bs

/-- Removing what stuffing inserted: the bit after every run of five 1s is dropped (41_hdlc_framer R245). -/
def unstuff : (run : Nat) → List Bool → List Bool
  | _, [] => []
  | run, b :: bs =>
    if run = 5 then unstuff 0 bs
    else b :: unstuff (if b then run + 1 else 0) bs

/-- The frame of a body, bit by bit: body, FCS low byte, FCS high byte, each LSB first (41_hdlc_framer R234, 40_crc R204). -/
def frameStream (body : List Byte) : List Bool :=
  (body ++ [(fcsOf body).extractLsb' 0 8, (fcsOf body).extractLsb' 8 8]).flatMap lsbFirst

/-- The bits of a session (41_hdlc_framer R243). -/
def sessionStream (preambleFlags tailFlags : Nat) (body : List Byte) : List Bool :=
  flagsStream preambleFlags ++ stuff 0 (frameStream body) ++ flagsStream tailFlags

/-- The body the framer reads: BUF[0..lat_len-1] (41_hdlc_framer R234). -/
def State.body (s : State) : List Byte := (List.range s.latLen.toNat).map s.bufByte

end Sys2Proof.Machine
end

