-- ==== Sys2Proof/Certificates/Slice0/Obligations.lean ====
section
/-! DEFINITION. The statements for the provers, each from the numbered rules of spec/ named in its docstring. -/

open Sys2Proof Sys2Proof.Machine

/-! ## Words, decoding, steps -/

/-- Words written out from the map of 30_encoding R147, one or more of each family, and the boundary offsets of the frame
buffer window, decode to the operations they stand for. -/
def Obligations.WordsDecodeAsTheMapSays : Prop :=
  decode Config.block ⟨0x0004, none⟩ = .ok .rdStatus ∧
  decode Config.block ⟨0x0044, none⟩ = .ok .rdEncPos ∧
  decode Config.block ⟨0x0048, none⟩ = .ok (.rdUnmapped 0x048) ∧
  decode Config.block ⟨0x4000, some 0x0D⟩ = .ok (.wrCtrl 0x0D) ∧
  decode Config.block ⟨0x400C, some 1⟩ = .ok .send ∧
  decode Config.block ⟨0x400C, some 2⟩ = .ok .cancel ∧
  decode Config.block ⟨0x400C, some 3⟩ = .ok .crcInit ∧
  decode Config.block ⟨0x400C, some 0x101⟩ = .ok (.badCmd 0x101) ∧
  decode Config.block ⟨0x4028, some 0x31⟩ = .ok (.wrCrcData 0x31) ∧
  decode Config.block ⟨0x0800, none⟩ = .ok (.rdBuf 0) ∧
  decode Config.block ⟨0x4D1C, some 0x55⟩ = .ok (.wrBuf 327 0x55) ∧
  decode Config.block ⟨0x0D20, none⟩ = .ok (.rdUnmapped 0xD20) ∧
  decode Config.block ⟨0x4011, some 5⟩ = .ok (.wrMisaligned 0x011 5) ∧
  decode Config.block ⟨0x8001, none⟩ = .ok .evSampleStrobe ∧
  decode Config.block ⟨0x8004, none⟩ = .ok .evSinkFault ∧
  decode Config.block ⟨0x8005, none⟩ = .ok (.invalid 0x8005)

/-- Decode and encode agree on every well-formed instruction, for every size of the frame buffer (30_encoding R140, R144, R146). -/
def Obligations.DecodeOfEncodeIsTheInstruction : Prop :=
  ∀ (P : Params) (i : Instr), i.wf P = true → decode P (encode i) = .ok i

/-- Every operation that spells an instruction is the encoding of that instruction: no bit of a word and no operand is
dropped (30_encoding R140, R141). -/
def Obligations.EncodeOfDecodeIsTheOperation : Prop :=
  ∀ (P : Params) (o : Operation) (i : Instr),
    decode P o = .ok i → (∀ op, i ≠ .invalid op) → encode i = o

/-- Whatever is decoded meets the operand checks of its instruction (30_encoding R143, R144, R146). -/
def Obligations.DecodedInstructionsAreWellFormed : Prop :=
  ∀ (P : Params) (o : Operation) (i : Instr), decode P o = .ok i → i.wf P = true

/-- 30_encoding R147: each word but 0x400C matches exactly one row of the table, 0x400C matches the four CMD rows, and the
decoder reads from an operation the instruction whose row it matches. -/
def Obligations.DecoderFollowsTheOpcodeTable : Prop :=
  (∀ op : BitVec 16, op ≠ 0x400C → ∃! r, r ∈ opcodeRows ∧ r.hasWord op = true) ∧
  ((opcodeRows.filter fun r => r.hasWord 0x400C).map fun r => r.mnemonic) =
    ["SEND", "CANCEL", "CRC_INIT", "BAD_CMD"] ∧
  ∀ (o : Operation) (i : Instr), decode Config.block o = .ok i →
    ((opcodeRows.filter fun r => r.hasWord o.op && r.hasOperand o.wdata).map fun r => r.mnemonic) = [mnemonicOf i]

/-- 30_encoding R143: the words that spell no operation are exactly those decoded to `invalid`, and such a word is refused
in every state. -/
def Obligations.IllegalWordsAreRefused : Prop :=
  (∀ (P : Params) (o : Operation),
    (o.op.extractLsb' 14 2 = 3 ∨ o.op.extractLsb' 12 2 ≠ 0 ∨
      (o.op.extractLsb' 14 2 = 2 ∧ (o.op.extractLsb' 4 8 ≠ 0 ∨ 5 ≤ (o.op.extractLsb' 0 4).toNat)))
    ↔ decode P o = .ok (.invalid o.op)) ∧
  ∀ (op : BitVec 16) (s : State), exec (.invalid op) s = .refused (.noSuchOperation op)

/-- A step performs the oldest arrival as the instruction it decodes to, the later arrivals left waiting (00_scope R16,
20_memory R111). -/
def Obligations.StepPerformsTheOldestArrival : Prop :=
  ∀ (s : State) (o : Operation) (rest : List Operation) (i : Instr),
    s.inbox = o :: rest → decode Config.block o = .ok i → step s = exec i { s with inbox := rest }

/-- The model's choices for a step that performs no operation: without an arrival nothing changes (log 4), and an arrival
whose operand does not fit its class is refused (log 5). -/
def Obligations.StepWithoutAnOperation : Prop :=
  (∀ s : State, s.inbox = [] → step s = .next s) ∧
  ∀ (s : State) (o : Operation) (rest : List Operation) (e : DecodeError),
    s.inbox = o :: rest → decode Config.block o = .error e → step s = .refused .malformedArrival

/-- A word placed by `withFetchWord` is performed by the very next step, on the state it was placed in (log 2, log 7). -/
def Obligations.FetchWordPerformsItsInstruction : Prop :=
  ∀ (s : State) (nbits w : Nat) (i : Instr),
    decodeTableWord nbits w = some i → step (s.withFetchWord nbits w) = exec i s

/-! ## Reads -/

/-- An offset at which an access is a bad access: misaligned, or aligned and unmapped (20_memory R106, 10_state R77). -/
def badOffset (off : Offset) : Prop :=
  off.toNat % 4 ≠ 0 ∨ (0x048 ≤ off.toNat ∧ off.toNat ≤ 0x7FC) ∨ 0xD20 ≤ off.toNat

/-- The READ of any of the 4096 offsets completes and changes nothing but its answer and, at a bad offset, EVENTS.ACC_ERR;
a bad read answers 0 (45_host_bus R350, 20_memory R108). -/
def Obligations.ReadsChangeNothingBeyondAccErr : Prop :=
  ∀ (off : Offset) (i : Instr) (s : State), decode Config.block ⟨off.setWidth 16, none⟩ = .ok i →
    ∃ v acc, exec i s = .next { s with response := .rdata v, evAccErr := acc } ∧
      (acc = true ↔ s.evAccErr = true ∨ badOffset off) ∧ (badOffset off → v = 0)

/-- 45_host_bus R352: a misaligned access is not rounded to a word; it sets ACC_ERR, a read answers 0, a write changes
nothing else. -/
def Obligations.MisalignedAccessIsBad : Prop :=
  ∀ (off : Offset) (w : Word) (s : State),
    (off.toNat % 4 ≠ 0 →
      decode Config.block ⟨off.setWidth 16, none⟩ = .ok (.rdMisaligned off) ∧
      decode Config.block ⟨0x4000 ||| off.setWidth 16, some w⟩ = .ok (.wrMisaligned off w)) ∧
    exec (.rdMisaligned off) s = .next { s with evAccErr := true, response := .rdata 0 } ∧
    exec (.wrMisaligned off w) s = .next { s with evAccErr := true, response := .none }

/-- 45_host_bus R353: an access to an unmapped offset sets ACC_ERR, a read answers 0, a write changes nothing else. -/
def Obligations.UnmappedAccessIsBad : Prop :=
  ∀ (off : Offset) (w : Word) (s : State),
    (off.toNat % 4 = 0 → ((0x048 ≤ off.toNat ∧ off.toNat ≤ 0x7FC) ∨ 0xD20 ≤ off.toNat) →
      decode Config.block ⟨off.setWidth 16, none⟩ = .ok (.rdUnmapped off) ∧
      decode Config.block ⟨0x4000 ||| off.setWidth 16, some w⟩ = .ok (.wrUnmapped off w)) ∧
    exec (.rdUnmapped off) s = .next { s with evAccErr := true, response := .rdata 0 } ∧
    exec (.wrUnmapped off w) s = .next { s with evAccErr := true, response := .none }

/-- 45_host_bus R354: a write to any of the nine read-only registers sets ACC_ERR and changes nothing else. -/
def Obligations.ReadOnlyWritesAreBad : Prop :=
  ∀ (w : Word) (s : State),
    ∀ i ∈ [Instr.wrStatus w, .wrCrc w, .wrFcs w, .wrPhase w, .wrParam0 w, .wrParam1 w, .wrSampleCount w, .wrTimers w, .wrEncPos w],
      exec i s = .next { s with evAccErr := true, response := .none }

/-- 45_host_bus R355: a read of CMD or CRC_DATA answers 0 and is no bad access. -/
def Obligations.WriteOnlyReadsAnswerZero : Prop :=
  ∀ s : State,
    exec .rdCmd s = .next { s with response := .rdata 0 } ∧
    exec .rdCrcData s = .next { s with response := .rdata 0 }

/-- 45_host_bus R357, R360: CTRL and EVENTS show their bits at their places, every reserved bit 0. -/
def Obligations.CtrlAndEventsReadTheirBits : Prop :=
  ∀ s : State,
    (∃ v, exec .rdCtrl s = .next { s with response := .rdata v } ∧
      v.getLsbD 0 = s.pttPol ∧ v.getLsbD 1 = s.nrziInit ∧ v.getLsbD 2 = s.ieDone ∧ v.getLsbD 3 = s.ieErr ∧
      v.toNat < 16) ∧
    ∃ v, exec .rdEvents s = .next { s with response := .rdata v } ∧
      v.getLsbD 0 = s.evDone ∧ v.getLsbD 1 = s.evErr ∧ v.getLsbD 2 = s.evAccErr ∧ v.toNat < 8

/-- 45_host_bus R358: STATUS shows each field at its place, with the codes of 10_state R33, R40 and 60_exceptions R401, and
0 in every reserved bit. -/
def Obligations.StatusShowsItsFields : Prop :=
  ∀ s : State, ∃ v, exec .rdStatus s = .next { s with response := .rdata v } ∧
    (v.extractLsb' 0 3).toNat = (match s.seqState with
      | .ready => 0 | .pttAssert => 1 | .txPreamble => 2 | .txFrame => 3 | .txTail => 4 | .pttRelease => 5) ∧
    v.getLsbD 3 = false ∧
    (v.extractLsb' 4 3).toNat = (match s.encState with
      | .idle => 0 | .preamble => 1 | .frame => 2 | .tail => 3 | .done => 4) ∧
    v.getLsbD 7 = false ∧
    (v.getLsbD 8 = true ↔ s.seqState ≠ .ready) ∧
    v.getLsbD 9 = s.pttAsserted ∧
    v.getLsbD 10 = (if s.pttPol then s.pttAsserted else !s.pttAsserted) ∧
    (v.getLsbD 11 = true ↔ s.tone = .space) ∧
    v.getLsbD 12 = s.drained ∧
    v.getLsbD 13 = s.cancelPend ∧
    v.extractLsb' 14 2 = 0 ∧
    (v.extractLsb' 16 4).toNat = (match s.errCode with
      | .none => 0 | .busy => 1 | .badConfig => 2 | .badLength => 3 | .audioFault => 4 | .badCmd => 5) ∧
    v.extractLsb' 20 12 = 0

/-- 45_host_bus R363, R365: FRAME_LEN and the four timing registers answer the value they hold, widened with zeros. -/
def Obligations.ConfigurationReadsAnswerTheirValue : Prop :=
  ∀ s : State,
    exec .rdFrameLen s = .next { s with response := .rdata (BitVec.ofNat 32 s.frameLen.toNat) } ∧
    exec .rdPreambleMs s = .next { s with response := .rdata (BitVec.ofNat 32 s.preambleMs.toNat) } ∧
    exec .rdTailMs s = .next { s with response := .rdata (BitVec.ofNat 32 s.tailMs.toNat) } ∧
    exec .rdPttLeadMs s = .next { s with response := .rdata (BitVec.ofNat 32 s.pttLeadMs.toNat) } ∧
    exec .rdPttTrailMs s = .next { s with response := .rdata (BitVec.ofNat 32 s.pttTrailMs.toNat) }

/-- 40_crc R209, R210: CRC shows the uncomplemented register, FCS the latched value. -/
def Obligations.CrcAndFcsReadTheirRegisters : Prop :=
  ∀ s : State,
    exec .rdCrc s = .next { s with response := .rdata (BitVec.ofNat 32 s.crc.toNat) } ∧
    exec .rdFcs s = .next { s with response := .rdata (BitVec.ofNat 32 s.fcs.toNat) }

/-- 45_host_bus R370-R374: PHASE, SAMPLE_COUNT, TIMERS and ENC_POS show the live state, field by field; PARAM0 and PARAM1 the
build constants, for the parameters of 00_scope R10. -/
def Obligations.ObservationRegistersShowTheState : Prop :=
  ∀ s : State,
    (∃ v, exec .rdPhase s = .next { s with response := .rdata v } ∧
      v.extractLsb' 0 16 = s.phaseAcc ∧ v.extractLsb' 16 16 = s.phaseInc) ∧
    exec .rdParam0 s = .next { s with response := .rdata 0x055502E9 } ∧
    exec .rdParam1 s = .next { s with response := .rdata 0x01480058 } ∧
    exec .rdSampleCount s = .next { s with response := .rdata s.sampleCount } ∧
    (∃ v, exec .rdTimers s = .next { s with response := .rdata v } ∧
      v.extractLsb' 0 16 = s.leadCnt ∧ v.extractLsb' 16 16 = s.trailCnt) ∧
    ∃ v, exec .rdEncPos s = .next { s with response := .rdata v } ∧
      v.extractLsb' 0 9 = s.byteIdx ∧ v.extractLsb' 9 3 = s.bitPos ∧ v.extractLsb' 12 3 = s.ones ∧
      v.getLsbD 15 = false ∧ v.extractLsb' 16 8 = s.flagsLeft ∧ v.extractLsb' 24 7 = s.sampleIndex ∧
      v.getLsbD 31 = false

/-- 45_host_bus R377: RD BUF[i] answers the byte the entry holds, and the entry holds that byte, written or not, until RESET
or a write of that entry, whatever else is performed. -/
def Obligations.BufferReadIsStable : Prop :=
  ∀ (i : BitVec 9) (s : State), i.toNat < 328 →
    exec (.rdBuf i) s = .next { s with response := .rdata (BitVec.ofNat 32 (s.bufByte i.toNat).toNat) } ∧
    ∀ (j : Instr) (t : State), exec j s = .next t → j ≠ .evReset → (∀ w, j ≠ .wrBuf i w) →
      exec (.rdBuf i) t = .next { t with response := .rdata (BitVec.ofNat 32 (s.bufByte i.toNat).toNat) }

/-! ## Writes and commands -/

/-- 45_host_bus R376: WR BUF[i] stores WDATA[7:0] in entry i and no other, unless BUSY: then ACC_ERR and no other change. -/
def Obligations.BufferWriteStoresOneByte : Prop :=
  ∀ (i : BitVec 9) (w : Word) (s : State), i.toNat < 328 →
    (s.seqState = .ready →
      ∃ m, exec (.wrBuf i w) s = .next { s with buf := m, response := .none } ∧
        ∀ k, ({ s with buf := m, response := .none } : State).bufByte k =
          if k = i.toNat then w.extractLsb' 0 8 else s.bufByte k) ∧
    (s.seqState ≠ .ready → exec (.wrBuf i w) s = .next { s with evAccErr := true, response := .none })

/-- 45_host_bus R356: WR CTRL stores PTT_POL and NRZI_INIT unless it would change one while BUSY, which sets ACC_ERR; it
stores the enables in every case. -/
def Obligations.CtrlWriteObeysTheLock : Prop :=
  ∀ (w : Word) (s : State),
    (s.seqState = .ready ∨ (w.getLsbD 0 = s.pttPol ∧ w.getLsbD 1 = s.nrziInit) →
      exec (.wrCtrl w) s = .next { s with
        pttPol := w.getLsbD 0, nrziInit := w.getLsbD 1, ieDone := w.getLsbD 2, ieErr := w.getLsbD 3, response := .none }) ∧
    (s.seqState ≠ .ready → (w.getLsbD 0 ≠ s.pttPol ∨ w.getLsbD 1 ≠ s.nrziInit) →
      exec (.wrCtrl w) s = .next { s with
        evAccErr := true, ieDone := w.getLsbD 2, ieErr := w.getLsbD 3, response := .none })

/-- 45_host_bus R359: WR EVENTS clears the bits written 1, ERR_CODE with ERR, and no other. -/
def Obligations.EventsWriteClearsOnes : Prop :=
  ∀ (w : Word) (s : State),
    exec (.wrEvents w) s = .next { s with
      evDone := s.evDone && !w.getLsbD 0
      evErr := s.evErr && !w.getLsbD 1
      evAccErr := s.evAccErr && !w.getLsbD 2
      errCode := if w.getLsbD 1 then .none else s.errCode
      response := .none }

/-- 45_host_bus R361: all 32 bits of a CMD write are decoded; 1, 2 and 3 are the commands, and every other value is rejected
with BAD_CMD in every state, the session undisturbed. -/
def Obligations.CmdWriteDispatches : Prop :=
  ∀ (w : Word) (s : State),
    decode Config.block ⟨0x400C, some w⟩ = .ok
      (if w = 1 then .send else if w = 2 then .cancel else if w = 3 then .crcInit else .badCmd w) ∧
    exec (.badCmd w) s = .next { s with errCode := .badCmd, evErr := true, response := .none }

/-- 45_host_bus R362: WR FRAME_LEN stores WDATA[8:0], unless BUSY: then ACC_ERR and no other change. -/
def Obligations.FrameLenWriteObeysTheLock : Prop :=
  ∀ (w : Word) (s : State),
    (s.seqState = .ready →
      exec (.wrFrameLen w) s = .next { s with frameLen := BitVec.ofNat 9 w.toNat, response := .none }) ∧
    (s.seqState ≠ .ready → exec (.wrFrameLen w) s = .next { s with evAccErr := true, response := .none })

/-- 45_host_bus R364: the four timing registers store WDATA[15:0] in every state, and nothing else changes. -/
def Obligations.TimingWritesAlwaysStore : Prop :=
  ∀ (w : Word) (s : State),
    exec (.wrPreambleMs w) s = .next { s with preambleMs := BitVec.ofNat 16 w.toNat, response := .none } ∧
    exec (.wrTailMs w) s = .next { s with tailMs := BitVec.ofNat 16 w.toNat, response := .none } ∧
    exec (.wrPttLeadMs w) s = .next { s with pttLeadMs := BitVec.ofNat 16 w.toNat, response := .none } ∧
    exec (.wrPttTrailMs w) s = .next { s with pttTrailMs := BitVec.ofNat 16 w.toNat, response := .none }

/-- 40_crc R207: WR CRC_DATA feeds WDATA[7:0] to the generator, unless BUSY: then ACC_ERR and no other change. -/
def Obligations.CrcDataWriteFeedsAByte : Prop :=
  ∀ (w : Word) (s : State),
    (s.seqState = .ready →
      exec (.wrCrcData w) s = .next { s with crc := crcByte s.crc (BitVec.ofNat 8 w.toNat), response := .none }) ∧
    (s.seqState ≠ .ready → exec (.wrCrcData w) s = .next { s with evAccErr := true, response := .none })

/-- 40_crc R208: CRC_INIT sets crc to 0xFFFF, unless BUSY: then it is rejected with BUSY. -/
def Obligations.CrcInitRestartsTheGenerator : Prop :=
  ∀ s : State,
    (s.seqState = .ready → exec .crcInit s = .next { s with crc := 0xFFFF, response := .none }) ∧
    (s.seqState ≠ .ready → exec .crcInit s = .next { s with errCode := .busy, evErr := true, response := .none })

/-- 44_ptt_sequencer R314: CANCEL sets the flag while BUSY and does nothing in READY. -/
def Obligations.CancelSetsTheFlagOnly : Prop :=
  ∀ s : State,
    (s.seqState ≠ .ready → exec .cancel s = .next { s with cancelPend := true, response := .none }) ∧
    (s.seqState = .ready → exec .cancel s = .next { s with response := .none })

/-- 44_ptt_sequencer R311, R312: SEND checks configuration, length and BUSY in that order; a rejection changes ERR_CODE and
EVENTS.ERR only, and an accepted SEND latches the configuration, initialises the framer and keys the transmitter. -/
def Obligations.SendChecksThenStartsTheSession : Prop :=
  ∀ s : State,
    let configGood := 100 ≤ s.preambleMs.toNat ∧ s.preambleMs.toNat ≤ 1000 ∧ 10 ≤ s.tailMs.toNat ∧ s.tailMs.toNat ≤ 500
    let lengthGood := 16 ≤ s.frameLen.toNat ∧ s.frameLen.toNat ≤ 328
    (¬ configGood → exec .send s = .next { s with errCode := .badConfig, evErr := true, response := .none }) ∧
    (configGood → ¬ lengthGood →
      exec .send s = .next { s with errCode := .badLength, evErr := true, response := .none }) ∧
    (configGood → lengthGood → s.seqState ≠ .ready →
      exec .send s = .next { s with errCode := .busy, evErr := true, response := .none }) ∧
    (configGood → lengthGood → s.seqState = .ready →
      exec .send s = .next { s with
        latLen := s.frameLen
        latPre := BitVec.ofNat 8 (((6 * s.preambleMs.toNat + 4) / 5 + 7) / 8)
        latTail := BitVec.ofNat 8 (((6 * s.tailMs.toNat + 4) / 5 + 7) / 8)
        latTrail := s.pttTrailMs
        leadCnt := s.pttLeadMs
        trailCnt := 0
        encState := .preamble
        flagsLeft := BitVec.ofNat 8 (((6 * s.preambleMs.toNat + 4) / 5 + 7) / 8)
        bitPos := 0
        byteIdx := 0
        ones := 0
        crc := 0xFFFF
        tone := if s.nrziInit then .space else .mark
        sampleIndex := 0
        sampleCount := 0
        drained := false
        pttAsserted := true
        seqState := .pttAssert
        response := .none })

/-- 41_hdlc_framer R232: the flag count is the least number of whole flags that lasts the duration, within its ranges over
the legal durations, with the rule's own instances. -/
def Obligations.FlagCountIsLeast : Prop :=
  (∀ ms n : Nat, nflags ms ≤ n ↔ 6 * ms ≤ 5 * (8 * n)) ∧
  (∀ ms : Nat, 100 ≤ ms → ms ≤ 1000 → 15 ≤ nflags ms ∧ nflags ms ≤ 150) ∧
  (∀ ms : Nat, 10 ≤ ms → ms ≤ 500 → 2 ≤ nflags ms ∧ nflags ms ≤ 75) ∧
  nflags 100 = 15 ∧ nflags 350 = 53 ∧ nflags 10 = 2 ∧ nflags 50 = 8

/-! ## Events -/

/-- 44_ptt_sequencer R315, R320: a tick counts the lead wait down and then loads the first bit; after the drain report it
counts the trail wait down and then ends the session; in every other state it does nothing. -/
def Obligations.TimeTickServesTheWaits : Prop :=
  ∀ s : State,
    (s.seqState = .pttAssert → s.leadCnt ≠ 0 →
      exec .evTimeTick s = .next { s with leadCnt := s.leadCnt - 1, response := .none }) ∧
    (s.seqState = .pttAssert → s.leadCnt = 0 →
      exec .evTimeTick s = .next { loadBit Config.block s with response := .none }) ∧
    (s.seqState = .pttRelease → s.drained = true → s.trailCnt ≠ 0 →
      exec .evTimeTick s = .next { s with trailCnt := s.trailCnt - 1, response := .none }) ∧
    (s.seqState = .pttRelease → s.drained = true → s.trailCnt = 0 →
      exec .evTimeTick s = .next { s with
        pttAsserted := false, seqState := .ready, encState := .idle, drained := false, cancelPend := false,
        evDone := true, response := .none }) ∧
    (s.seqState ≠ .pttAssert → ¬ (s.seqState = .pttRelease ∧ s.drained = true) →
      exec .evTimeTick s = .next { s with response := .none })

/-- 44_ptt_sequencer R318: the first drain report in PTT_RELEASE starts the trail wait; every other report is ignored. -/
def Obligations.SinkDrainedStartsTheTrailWait : Prop :=
  ∀ s : State,
    (s.seqState = .pttRelease → s.drained = false →
      exec .evSinkDrained s = .next { s with drained := true, trailCnt := s.latTrail, response := .none }) ∧
    (¬ (s.seqState = .pttRelease ∧ s.drained = false) →
      exec .evSinkDrained s = .next { s with response := .none })

/-- 44_ptt_sequencer R319, R321: a sink fault while BUSY aborts the session, PTT off, AUDIO_FAULT recorded, DONE not set; in
READY it is ignored. -/
def Obligations.SinkFaultAbortsTheSession : Prop :=
  ∀ s : State,
    (s.seqState ≠ .ready →
      exec .evSinkFault s = .next { s with
        pttAsserted := false, seqState := .ready, encState := .idle, drained := false, cancelPend := false,
        leadCnt := 0, trailCnt := 0, errCode := .audioFault, evErr := true, response := .none }) ∧
    (s.seqState = .ready → exec .evSinkFault s = .next { s with response := .none })

/-- The state after one sample was taken in state `s`: the accumulator advances, then the sample is read from the table
(43_afsk R286). -/
def afterSample (s : State) : State :=
  { s with
    phaseAcc := s.phaseAcc + s.phaseInc
    sampleIndex := s.sampleIndex + 1
    sampleCount := s.sampleCount + 1
    response := .sample (Config.lutTable.getD ((s.phaseAcc + s.phaseInc).toNat / 256) 0) }

/-- 43_afsk R286, R290: a strobe in a TX state puts out one sample, and after the last sample of a bit loads the next bit; a
strobe in any other state puts out nothing and changes nothing. -/
def Obligations.SampleStrobeTakesOneSample : Prop :=
  ∀ s : State,
    (s.seqState = .txPreamble ∨ s.seqState = .txFrame ∨ s.seqState = .txTail →
      exec .evSampleStrobe s = .next
        (if (s.sampleIndex + 1).toNat = 88 then loadBit Config.block (afterSample s) else afterSample s)) ∧
    (s.seqState = .ready ∨ s.seqState = .pttAssert ∨ s.seqState = .pttRelease →
      exec .evSampleStrobe s = .next { s with response := .none })

/-- 43_afsk R284: `load_bit()` takes the next bit, selects tone, increment and TX state from it, or on END goes to
PTT_RELEASE. -/
def Obligations.LoadBitModulatesOrReleases : Prop :=
  ∀ (P : Params) (s : State),
    ((nextBit s).1 = .endOfSession →
      loadBit P s = { (nextBit s).2 with sampleIndex := 0, seqState := .pttRelease, drained := false }) ∧
    ∀ b, (nextBit s).1 = .bit b →
      ∃ tone, (tone = (nextBit s).2.tone ↔ b = true) ∧
        loadBit P s = { (nextBit s).2 with
          sampleIndex := 0
          tone := tone
          phaseInc := if tone = .mark then P.dmark else P.dspace
          seqState := match (nextBit s).2.encState with
            | .preamble => .txPreamble
            | .frame => .txFrame
            | .tail => .txTail
            | .idle => (nextBit s).2.seqState
            | .done => (nextBit s).2.seqState }

/-- 41_hdlc_framer R236: what `next_bit()` returns and writes, phase by phase, the changes of phase included. -/
def Obligations.NextBitFollowsItsPhase : Prop :=
  ∀ s : State,
    (s.encState = .idle ∨ s.encState = .done → nextBit s = (.endOfSession, s)) ∧
    (s.encState = .tail → s.flagsLeft = 0 → nextBit s = (.endOfSession, { s with encState := .done })) ∧
    (s.encState = .preamble ∨ s.encState = .tail → s.flagsLeft ≠ 0 →
      nextBit s = (.bit (decide (s.bitPos ≠ 0 ∧ s.bitPos ≠ 7)),
        if s.bitPos = 7 then { s with bitPos := 0, flagsLeft := s.flagsLeft - 1 } else { s with bitPos := s.bitPos + 1 })) ∧
    (s.encState = .preamble → s.flagsLeft = 0 →
      nextBit s = nextBit { s with encState := .frame, byteIdx := 0, bitPos := 0, ones := 0 }) ∧
    (s.encState = .frame → s.ones ≠ 5 → s.byteIdx.toNat = s.latLen.toNat + 2 →
      nextBit s = nextBit { s with encState := .tail, flagsLeft := s.latTail, bitPos := 0 }) ∧
    (s.encState = .frame → s.ones = 5 → nextBit s = (.bit false, { s with ones := 0 })) ∧
    (s.encState = .frame → s.ones ≠ 5 → s.byteIdx.toNat < s.latLen.toNat + 2 →
      ∃ b, b = (if s.byteIdx.toNat < s.latLen.toNat then (s.bufByte s.byteIdx.toNat).getLsbD s.bitPos.toNat
          else s.fcs.getLsbD (8 * (s.byteIdx.toNat - s.latLen.toNat) + s.bitPos.toNat)) ∧
        ∃ c, c = (if s.byteIdx.toNat < s.latLen.toNat then crcBit s.crc b else s.crc) ∧
          nextBit s = (.bit b, { s with
            crc := c
            bitPos := if s.bitPos = 7 then 0 else s.bitPos + 1
            byteIdx := if s.bitPos = 7 then s.byteIdx + 1 else s.byteIdx
            fcs := if s.bitPos = 7 ∧ s.byteIdx + 1 = s.latLen then ~~~c else s.fcs
            ones := if b then s.ones + 1 else 0 }))

/-- 70_reset_and_hazards R441: EV RESET puts every register and field at its reset value, the pin and irq to 0, and every
register then reads as the rule lists. -/
def Obligations.ResetRestoresEveryRegister : Prop :=
  ∀ s : State, ∃ t, exec .evReset s = .next t ∧
    t.seqState = .ready ∧ t.pttAsserted = false ∧ t.drained = false ∧ t.cancelPend = false ∧
    t.leadCnt = 0 ∧ t.trailCnt = 0 ∧ t.latLen = 0 ∧ t.latPre = 0 ∧ t.latTail = 0 ∧ t.latTrail = 0 ∧
    t.encState = .idle ∧ t.flagsLeft = 0 ∧ t.bitPos = 0 ∧ t.byteIdx = 0 ∧ t.ones = 0 ∧
    t.crc = 0xFFFF ∧ t.fcs = 0 ∧ t.tone = .mark ∧ t.phaseAcc = 0 ∧ t.phaseInc = 745 ∧
    t.sampleIndex = 0 ∧ t.sampleCount = 0 ∧
    t.pttPol = true ∧ t.nrziInit = false ∧ t.ieDone = false ∧ t.ieErr = false ∧
    t.evDone = false ∧ t.evErr = false ∧ t.evAccErr = false ∧ t.errCode = .none ∧
    t.frameLen = 0 ∧ t.preambleMs = 350 ∧ t.tailMs = 50 ∧ t.pttLeadMs = 50 ∧ t.pttTrailMs = 20 ∧
    t.pttPin = false ∧ t.irq = false ∧
    ∀ p ∈ ([(.rdCtrl, 0x00000001), (.rdStatus, 0), (.rdEvents, 0), (.rdCmd, 0), (.rdFrameLen, 0),
        (.rdPreambleMs, 0x0000015E), (.rdTailMs, 0x00000032), (.rdPttLeadMs, 0x00000032), (.rdPttTrailMs, 0x00000014)] ++
        [(.rdCrc, 0x0000FFFF), (.rdCrcData, 0), (.rdFcs, 0), (.rdPhase, 0x02E90000), (.rdParam0, 0x055502E9),
        (.rdParam1, 0x01480058), (.rdSampleCount, 0), (.rdTimers, 0), (.rdEncPos, 0)] : List (Instr × Word)),
      exec p.1 t = .next { t with response := .rdata p.2 }

/-- EV RESET (70_reset_and_hazards R440, 10_state R52): every frame buffer entry takes a new draw, whatever value the free
value has, and from then on answers it. That arrivals still waiting stay, and that draws are numbered, is the model's
choice (log 1, log 16). -/
def Obligations.ResetDrawsTheBufferAnew : Prop :=
  ∀ s : State, ∃ t, exec .evReset s = .next t ∧ t.inbox = s.inbox ∧ t.response = .none ∧
    ∀ i : BitVec 9, i.toNat < 328 → ∃ b : Byte, b = Config.freeByte (s.draws + 1) i.toNat ∧
      exec (.rdBuf i) t = .next { t with response := .rdata (BitVec.ofNat 32 b.toNat) }

/-! ## Invariants -/

/-- The state after reset meets the relations, the ranges and the canonical form of the frame buffer. -/
def Obligations.ResetStateIsSafe : Prop := State.reset.Safe Config.block

/-- 10_state R78, R79: the relations between the state elements hold after reset and are kept by every step, from every state
that meets them, reachable or not. -/
def Obligations.SequencerFramerRelationsAreKept : Prop :=
  State.reset.Consistent Config.block ∧
  ∀ s t : State, s.Consistent Config.block → step s = .next t → t.Consistent Config.block

/-- The ranges of latches, framer position and increment are kept by every step, from every state that meets them and the
relations of 10_state R78 (10_state R39, R41, R43, R49). -/
def Obligations.RangesAreKept : Prop :=
  ∀ s t : State, s.Consistent Config.block → s.InRange Config.block → step s = .next t → t.InRange Config.block

/-- The frame buffer stays in canonical form: indexes strictly rising, each below BODY_MAX (10_state R52; log 12). -/
def Obligations.BufferStaysCanonical : Prop :=
  ∀ s t : State, Memory.wf Config.block s.buf → step s = .next t → Memory.wf Config.block t.buf

/-! ## Rules about the whole machine -/

/-- Where the sequencer goes, by its table (44_ptt_sequencer R310): the last row says that every other pair of state and
operation leaves it where it is. -/
def sequencerNext (s : State) (i : Instr) : SeqState :=
  match i with
  | .send =>
    if s.seqState = .ready ∧ (100 ≤ s.preambleMs.toNat ∧ s.preambleMs.toNat ≤ 1000) ∧
        (10 ≤ s.tailMs.toNat ∧ s.tailMs.toNat ≤ 500) ∧ (16 ≤ s.frameLen.toNat ∧ s.frameLen.toNat ≤ 328)
    then .pttAssert else s.seqState
  | .evTimeTick =>
    if s.seqState = .pttAssert ∧ s.leadCnt = 0 then .txPreamble
    else if s.seqState = .pttRelease ∧ s.drained = true ∧ s.trailCnt = 0 then .ready
    else s.seqState
  | .evSampleStrobe =>
    if s.sampleIndex.toNat + 1 = 88 then
      if s.seqState = .txPreamble ∧ s.flagsLeft = 0 then .txFrame
      else if s.seqState = .txFrame ∧ s.ones ≠ 5 ∧ s.byteIdx.toNat = s.latLen.toNat + 2 then .txTail
      else if s.seqState = .txTail ∧ s.flagsLeft = 0 then .pttRelease
      else s.seqState
    else s.seqState
  | .evSinkFault => .ready
  | .evReset => .ready
  | _ => s.seqState

/-- 44_ptt_sequencer R310: from a safe state the sequencer moves as its table says, counters and `drained` included, and an
operation that can be performed at all is performed in every state. -/
def Obligations.SequencerMovesAsItsTableSays : Prop :=
  ∀ (s : State) (i : Instr), s.Safe Config.block → (∀ op, i ≠ .invalid op) →
    ∃ t, exec i s = .next t ∧ t.seqState = sequencerNext s i ∧
      (i = .evTimeTick → s.seqState = .pttAssert → s.leadCnt ≠ 0 → t.leadCnt = s.leadCnt - 1) ∧
      (i = .evTimeTick → s.seqState = .pttRelease → s.drained = true → s.trailCnt ≠ 0 → t.trailCnt = s.trailCnt - 1) ∧
      (i = .evSinkDrained → s.seqState = .pttRelease → t.drained = true)

/-- 60_exceptions R408, with 10_state R60: DONE is set by the end of a session alone, ERR by a rejected command or a sink
fault alone, and an event bit is cleared by a write of 1 to it or by RESET alone. -/
def Obligations.EventBitsAreSetAndClearedByTheirCauses : Prop :=
  ∀ (s t : State) (i : Instr), exec i s = .next t →
    (s.evDone = false → t.evDone = true →
      i = .evTimeTick ∧ s.seqState = .pttRelease ∧ s.drained = true ∧ s.trailCnt = 0 ∧ t.seqState = .ready) ∧
    (s.evErr = false → t.evErr = true →
      (i = .send ∧ t.errCode ∈ [.badConfig, .badLength, .busy]) ∨ (i = .crcInit ∧ t.errCode = .busy) ∨
      ((∃ w, i = .badCmd w) ∧ t.errCode = .badCmd) ∨ (i = .evSinkFault ∧ t.errCode = .audioFault)) ∧
    (s.evDone = true → t.evDone = false → i = .evReset ∨ ∃ w, i = .wrEvents w ∧ w.getLsbD 0 = true) ∧
    (s.evErr = true → t.evErr = false → i = .evReset ∨ ∃ w, i = .wrEvents w ∧ w.getLsbD 1 = true) ∧
    (s.evAccErr = true → t.evAccErr = false → i = .evReset ∨ ∃ w, i = .wrEvents w ∧ w.getLsbD 2 = true)

/-- 44_ptt_sequencer R322: the pin is the asserted level or its complement, and it changes only at the start, the end and the
abort of a session, at RESET, and in a CTRL write that changes PTT_POL, which is possible only in READY. -/
def Obligations.PttPinChangesAtSessionEdges : Prop :=
  (∀ s : State, s.pttPin = if s.pttPol then s.pttAsserted else !s.pttAsserted) ∧
  ∀ (s t : State) (i : Instr), exec i s = .next t → t.pttPin ≠ s.pttPin →
    (i = .send ∧ s.seqState = .ready ∧ t.seqState = .pttAssert) ∨
    (i = .evTimeTick ∧ s.seqState = .pttRelease ∧ t.seqState = .ready) ∨
    (i = .evSinkFault ∧ s.seqState ≠ .ready ∧ t.seqState = .ready) ∨
    i = .evReset ∨
    ∃ w, i = .wrCtrl w ∧ s.seqState = .ready ∧ t.pttPol ≠ s.pttPol

/-- 60_exceptions R407, 10_state R55: irq is the level of DONE and ERR under their enables; ACC_ERR alone never moves it. -/
def Obligations.IrqIsTheLevelOfEnabledEvents : Prop :=
  ∀ s : State,
    (s.irq = true ↔ (s.evDone = true ∧ s.ieDone = true) ∨ (s.evErr = true ∧ s.ieErr = true)) ∧
    (accErr s).irq = s.irq

/-- 43_afsk R287: the phase accumulator changes only when a sample is taken, by the increment, and at RESET; the increment
changes only when a bit is loaded, and at RESET. -/
def Obligations.PhaseIsContinuous : Prop :=
  ∀ (s t : State) (i : Instr), exec i s = .next t →
    (t.phaseAcc ≠ s.phaseAcc →
      i = .evReset ∨ (i = .evSampleStrobe ∧ (∃ v, t.response = .sample v) ∧ t.phaseAcc = s.phaseAcc + s.phaseInc)) ∧
    (t.phaseInc ≠ s.phaseInc →
      i = .evReset ∨ (i = .evSampleStrobe ∧ (s.sampleIndex + 1).toNat = 88) ∨
      (i = .evTimeTick ∧ s.seqState = .pttAssert ∧ s.leadCnt = 0))

/-- An operation of the host: not an event and not an illegal word (60_exceptions R417). -/
def hostOperation : Instr → Prop
  | .evReset => False
  | .evSampleStrobe => False
  | .evTimeTick => False
  | .evSinkDrained => False
  | .evSinkFault => False
  | .invalid _ => False
  | _ => True

/-- 45_host_bus R378: nothing the host does while BUSY changes the frame, the bit stream, the tones or the PTT timing of the
session: of the state only the cancel flag, the enables, the events with ERR_CODE and the four timing registers can change. -/
def Obligations.HostCannotDisturbASession : Prop :=
  ∀ (s : State) (i : Instr), s.seqState ≠ .ready → hostOperation i →
    ∃ t, exec i s = .next t ∧
      t = { s with
        cancelPend := t.cancelPend, ieDone := t.ieDone, ieErr := t.ieErr, evDone := t.evDone, evErr := t.evErr,
        evAccErr := t.evAccErr, errCode := t.errCode, preambleMs := t.preambleMs, tailMs := t.tailMs,
        pttLeadMs := t.pttLeadMs, pttTrailMs := t.pttTrailMs, response := t.response }

/-- Every sample is put out while the transmitter is keyed, before and after the transition (44_ptt_sequencer R323). -/
def Obligations.SamplesOnlyWhileKeyed : Prop :=
  ∀ (s t : State) (i : Instr), s.Consistent Config.block → exec i s = .next t → SafeTransition s t

/-! ## CRC, NRZI, bit stream -/

/-- 40_crc R201, R202: one bit step is the reflected shift with 0x8408 fed back where bit 0 of the register differs from the
input, and one byte step feeds bit 0 first. -/
def Obligations.CrcStepIsTheReflectedShift : Prop :=
  (∀ (c : Half) (b : Bool) (k : Nat), (crcBit c b).getLsbD k =
    (c.getLsbD (k + 1) ^^ ((c.getLsbD 0 ^^ b) && (k == 3 || k == 10 || k == 15)))) ∧
  ∀ (c : Half) (x : Byte), crcByte c x =
    crcBit (crcBit (crcBit (crcBit (crcBit (crcBit (crcBit (crcBit c (x.getLsbD 0)) (x.getLsbD 1)) (x.getLsbD 2))
      (x.getLsbD 3)) (x.getLsbD 4)) (x.getLsbD 5)) (x.getLsbD 6)) (x.getLsbD 7)

/-- 40_crc R205: the register XORed with the complemented FCS is zero, and a body followed by its FCS bytes, low byte first,
always leaves the register at 0xF0B8. -/
def Obligations.CrcResidueIsFixed : Prop :=
  ∀ body : List Byte,
    crcOf body ^^^ ~~~fcsOf body = 0 ∧
    crcOf (body ++ [(fcsOf body).extractLsb' 0 8, (fcsOf body).extractLsb' 8 8]) = 0xF0B8

/-- 41_hdlc_framer R243: from a fresh framer `next_bit()` returns the preamble flags, the body and its FCS stuffed, the tail
flags, and then END for ever; the FCS sent is that of the body. -/
def Obligations.FramerSendsFlagsAndStuffedFrame : Prop :=
  ∀ (s : State) (n : Nat), s.framerFresh → 16 ≤ s.latLen.toNat → s.latLen.toNat ≤ 328 →
    let bits := sessionStream s.latPre.toNat s.latTail.toNat s.body
    (pullBits (bits.length + n) s).1 = bits.map FramerOutput.bit ++ List.replicate n .endOfSession ∧
    (pullBits bits.length s).2.fcs = fcsOf s.body ∧ (pullBits bits.length s).2.crc = crcOf s.body

/-- Consequence (1) of 41_hdlc_framer R244: no six consecutive 1s are sent while the framer is in FRAME. -/
def Obligations.NoSixOnesInFrame : Prop :=
  ∀ (s : State) (n : Nat), s.encState = .frame → s.ones.toNat ≤ 5 → (pullBits n s).2.encState = .frame →
    ¬ List.replicate 6 (FramerOutput.bit true) <:+: (pullBits n s).1

/-- 41_hdlc_framer R245: removing the flags and the bit after every run of five 1s recovers the bytes of the frame. -/
def Obligations.UnstuffingRecoversTheFrame : Prop :=
  ∀ s : State, s.framerFresh → 16 ≤ s.latLen.toNat → s.latLen.toNat ≤ 328 →
    ∃ bits : List Bool,
      (pullBits bits.length s).1 = bits.map FramerOutput.bit ∧
      (nextBit (pullBits bits.length s).2).1 = .endOfSession ∧
      8 * s.latPre.toNat + 8 * s.latTail.toNat ≤ bits.length ∧
      unstuff 0 ((bits.drop (8 * s.latPre.toNat)).take (bits.length - 8 * s.latPre.toNat - 8 * s.latTail.toNat)) =
        (s.body ++ [(fcsOf s.body).extractLsb' 0 8, (fcsOf s.body).extractLsb' 8 8]).flatMap lsbFirst

/-! ## Runs -/

/-- 44_ptt_sequencer R316: a wait of N milliseconds lasts through N ticks and ends at the next one. -/
def Obligations.WaitsEndAtTheTickAfterTheLast : Prop :=
  (∀ (s : State) (n : Nat), s.seqState = .pttAssert → s.framerFresh → s.latPre ≠ 0 →
    (n ≤ s.leadCnt.toNat → ∃ t, performAll (List.replicate n .evTimeTick) s = .next t ∧
      t.seqState = .pttAssert ∧ t.leadCnt.toNat = s.leadCnt.toNat - n ∧ t.pttAsserted = s.pttAsserted) ∧
    ∃ t, performAll (List.replicate (s.leadCnt.toNat + 1) .evTimeTick) s = .next t ∧ t.seqState = .txPreamble) ∧
  ∀ (s : State) (n : Nat), s.seqState = .pttRelease → s.drained = true →
    (n ≤ s.trailCnt.toNat → ∃ t, performAll (List.replicate n .evTimeTick) s = .next t ∧
      t.seqState = .pttRelease ∧ t.trailCnt.toNat = s.trailCnt.toNat - n ∧ t.pttAsserted = s.pttAsserted) ∧
    ∃ t, performAll (List.replicate (s.trailCnt.toNat + 1) .evTimeTick) s = .next t ∧
      t.seqState = .ready ∧ t.pttAsserted = false ∧ t.evDone = true

/-- 43_afsk R289: after k samples of one bit interval the accumulator has advanced by k increments mod 2^16, up to the whole
interval of 88 samples, which is 2^16 + 24 for mark and 2^16 + 54584 for space. Until the interval is complete nothing but
accumulator, sample index, sample count and output has changed. -/
def Obligations.AccumulatorAdvancesByTheIncrement : Prop :=
  (∀ (s : State) (k : Nat), s.transmitting = true → s.sampleIndex.toNat + k ≤ 88 →
    ∃ t, performAll (List.replicate k .evSampleStrobe) s = .next t ∧
      t.phaseAcc = s.phaseAcc + BitVec.ofNat 16 k * s.phaseInc ∧
      t.sampleCount = s.sampleCount + BitVec.ofNat 32 k ∧
      (s.sampleIndex.toNat + k < 88 → t = { s with
        phaseAcc := s.phaseAcc + BitVec.ofNat 16 k * s.phaseInc
        sampleIndex := s.sampleIndex + BitVec.ofNat 7 k
        sampleCount := s.sampleCount + BitVec.ofNat 32 k
        response := t.response })) ∧
  88 * Config.block.dmark.toNat = 2 ^ 16 + 24 ∧ 88 * Config.block.dspace.toNat = 2 ^ 16 + 54584

/-- 44_ptt_sequencer R325 with 43_afsk R288: a whole session. From READY with a legal configuration and length, SEND, lead + 1
ticks, bits x 88 strobes, the drain report and trail + 1 ticks bring the block back to READY with DONE set, PTT off, the body's
FCS latched, and exactly bits x 88 samples counted. -/
def Obligations.CompleteSessionRunsItsTimeline : Prop :=
  ∀ s : State, s.seqState = .ready → 100 ≤ s.preambleMs.toNat → s.preambleMs.toNat ≤ 1000 →
    10 ≤ s.tailMs.toNat → s.tailMs.toNat ≤ 500 → 16 ≤ s.frameLen.toNat → s.frameLen.toNat ≤ 328 →
    let body := (List.range s.frameLen.toNat).map s.bufByte
    let bits := sessionStream (nflags s.preambleMs.toNat) (nflags s.tailMs.toNat) body
    ∃ t, performAll ([.send] ++ List.replicate (s.pttLeadMs.toNat + 1) .evTimeTick ++
        List.replicate (bits.length * 88) .evSampleStrobe ++ [.evSinkDrained] ++
        List.replicate (s.pttTrailMs.toNat + 1) .evTimeTick) s = .next t ∧
      t.seqState = .ready ∧ t.encState = .idle ∧ t.pttAsserted = false ∧ t.evDone = true ∧
      t.sampleCount.toNat = bits.length * 88 ∧ t.fcs = fcsOf body ∧ t.crc = crcOf body ∧
      t.errCode = s.errCode ∧ ∀ k, t.bufByte k = s.bufByte k

/-! ## The surroundings -/

/-- 20_memory R101: a host address is in the window iff BASE <= A < BASE + 0x1000, its offset is A - BASE, and BASE is a
multiple of 0x1000; MemRead and MemWrite are the READ and WRITE of that offset (00_scope R15). -/
def Obligations.WindowMapsHostAddresses : Prop :=
  Config.block.base % 0x1000 = 0 ∧
  ∀ (A : Nat) (v : Word),
    (Config.block.base ≤ A ∧ A < Config.block.base + 0x1000 →
      ∃ off : Offset, off.toNat = A - Config.block.base ∧
        memRead Config.block A = some ⟨off.setWidth 16, none⟩ ∧
        memWrite Config.block A v = some ⟨0x4000 ||| off.setWidth 16, some v⟩) ∧
    (¬ (Config.block.base ≤ A ∧ A < Config.block.base + 0x1000) →
      memRead Config.block A = none ∧ memWrite Config.block A v = none)

/-- An arrival whose word is a host access: class READ or WRITE, reserved bits 00 (30_encoding R140). -/
def isHostAccess (o : Operation) : Bool :=
  o.op.extractLsb' 12 2 == 0 && (o.op.extractLsb' 14 2 == 0 || o.op.extractLsb' 14 2 == 1)

/-- An arrival whose word is none of those R411 names: it spells no operation (30_encoding R143). -/
def isNoOperation (o : Operation) : Bool :=
  !isHostAccess o && o.op != 0x8000 && o.op != 0x8004 && o.op != 0x8001 && o.op != 0x8003 && o.op != 0x8002

/-- 60_exceptions R411: arrivals of one instant are performed in the order RESET, SINK_FAULT, host access, SAMPLE_STROBE,
SINK_DRAINED, TIME_TICK, those of one kind in the order they came, behind the arrivals that already wait; none is lost or
invented. That words of no operation come last, and that one kind keeps its order, is the model's choice (log 14). -/
def Obligations.SimultaneousArrivalsAreSerialised : Prop :=
  ∀ ops : List Operation,
    serialise ops =
      (ops.filter fun o => o.op == 0x8000) ++ (ops.filter fun o => o.op == 0x8004) ++
      ops.filter isHostAccess ++ (ops.filter fun o => o.op == 0x8001) ++
      (ops.filter fun o => o.op == 0x8003) ++ (ops.filter fun o => o.op == 0x8002) ++
      ops.filter isNoOperation ∧
    (serialise ops).Perm ops ∧
    ∀ s : State, s.arriveTogether ops = { s with inbox := s.inbox ++ serialise ops }
end

