-- ==== Sys2Proof/Laws/Decode.lean ====
section
/-! SUPPORT. The fields of the words that `encode` writes, read back. -/

namespace Sys2Proof

@[simp] theorem opClass_readWord (off : Offset) : opClass (readWord off) = 0b00 := by
  apply BitVec.eq_of_getLsbD_eq
  intro k hk
  simpa [opClass, readWord, hk] using fun _ => BitVec.getLsbD_of_ge off _ (by omega)

@[simp] theorem opClass_writeWord (off : Offset) : opClass (writeWord off) = 0b01 := by
  apply BitVec.eq_of_getLsbD_eq
  intro k hk
  have : k = 0 ∨ k = 1 := by omega
  rcases this with rfl | rfl <;> simp [opClass, writeWord]

@[simp] theorem opReserved_readWord (off : Offset) : opReserved (readWord off) = 0 := by
  apply BitVec.eq_of_getLsbD_eq
  intro k hk
  have : k = 0 ∨ k = 1 := by omega
  rcases this with rfl | rfl <;> simp [opReserved, readWord]

@[simp] theorem opReserved_writeWord (off : Offset) : opReserved (writeWord off) = 0 := by
  apply BitVec.eq_of_getLsbD_eq
  intro k hk
  have : k = 0 ∨ k = 1 := by omega
  rcases this with rfl | rfl <;> simp [opReserved, writeWord]

@[simp] theorem opOffset_readWord (off : Offset) : opOffset (readWord off) = off := by
  apply BitVec.eq_of_getLsbD_eq
  intro k hk
  simp [opOffset, readWord, hk]
  omega

@[simp] theorem opOffset_writeWord (off : Offset) : opOffset (writeWord off) = off := by
  apply BitVec.eq_of_getLsbD_eq
  intro k hk
  have h16 : k < 16 := by omega
  have h : (0x4000#16)[k] = false := by
    rw [← BitVec.getLsbD_eq_getElem]
    exact (by decide : ∀ j : Fin 12, (0x4000#16).getLsbD j = false) ⟨k, hk⟩
  simp [opOffset, writeWord, hk, h, h16]

@[simp] theorem offsetLow_bufOffset (i : BitVec 9) : offsetLow (bufOffset i) = 0 := by
  apply BitVec.eq_of_getLsbD_eq
  intro k hk
  have : k = 0 ∨ k = 1 := by omega
  rcases this with rfl | rfl <;> simp [offsetLow, bufOffset]

@[simp] theorem offsetIndex_bufOffset (i : BitVec 9) : offsetIndex (bufOffset i) = i := by
  apply BitVec.eq_of_getLsbD_eq
  intro k hk
  have h12 : 2 + k < 12 := by omega
  have h : (0x800#12)[2 + k] = false := by
    rw [← BitVec.getLsbD_eq_getElem]
    exact (by decide : ∀ j : Fin 9, (0x800#12).getLsbD (2 + j) = false) ⟨k, hk⟩
  simp [offsetIndex, bufOffset, hk, h, h12]
  omega

@[simp] theorem getLsbD_bufOffset_top (i : BitVec 9) : (bufOffset i).getLsbD 11 = true := by
  simp [bufOffset]

/-- An offset without a misaligned part, as the decoder sees it, is a multiple of 4. -/
theorem offsetLow_eq_zero_iff (off : Offset) : offsetLow off = 0 ↔ off.toNat % 4 = 0 := by
  simp [offsetLow, ← BitVec.toNat_inj]

end Sys2Proof
end

