-- ==== Sys2Proof/Laws/State.lean ====
section
/-! SUPPORT. What each named update leaves in each field of the state, every lemma true by rfl; the lemmas about a field an
update does not write are its frame. -/

namespace Sys2Proof.Machine

/-! ## `respond` -/

@[simp] theorem respond_seqState (r : Response) (s : State) : (respond r s).seqState = s.seqState := rfl
@[simp] theorem respond_pttAsserted (r : Response) (s : State) : (respond r s).pttAsserted = s.pttAsserted := rfl
@[simp] theorem respond_drained (r : Response) (s : State) : (respond r s).drained = s.drained := rfl
@[simp] theorem respond_cancelPend (r : Response) (s : State) : (respond r s).cancelPend = s.cancelPend := rfl
@[simp] theorem respond_leadCnt (r : Response) (s : State) : (respond r s).leadCnt = s.leadCnt := rfl
@[simp] theorem respond_trailCnt (r : Response) (s : State) : (respond r s).trailCnt = s.trailCnt := rfl
@[simp] theorem respond_latLen (r : Response) (s : State) : (respond r s).latLen = s.latLen := rfl
@[simp] theorem respond_latPre (r : Response) (s : State) : (respond r s).latPre = s.latPre := rfl
@[simp] theorem respond_latTail (r : Response) (s : State) : (respond r s).latTail = s.latTail := rfl
@[simp] theorem respond_latTrail (r : Response) (s : State) : (respond r s).latTrail = s.latTrail := rfl
@[simp] theorem respond_encState (r : Response) (s : State) : (respond r s).encState = s.encState := rfl
@[simp] theorem respond_flagsLeft (r : Response) (s : State) : (respond r s).flagsLeft = s.flagsLeft := rfl
@[simp] theorem respond_bitPos (r : Response) (s : State) : (respond r s).bitPos = s.bitPos := rfl
@[simp] theorem respond_byteIdx (r : Response) (s : State) : (respond r s).byteIdx = s.byteIdx := rfl
@[simp] theorem respond_ones (r : Response) (s : State) : (respond r s).ones = s.ones := rfl
@[simp] theorem respond_crc (r : Response) (s : State) : (respond r s).crc = s.crc := rfl
@[simp] theorem respond_fcs (r : Response) (s : State) : (respond r s).fcs = s.fcs := rfl
@[simp] theorem respond_tone (r : Response) (s : State) : (respond r s).tone = s.tone := rfl
@[simp] theorem respond_phaseAcc (r : Response) (s : State) : (respond r s).phaseAcc = s.phaseAcc := rfl
@[simp] theorem respond_phaseInc (r : Response) (s : State) : (respond r s).phaseInc = s.phaseInc := rfl
@[simp] theorem respond_sampleIndex (r : Response) (s : State) : (respond r s).sampleIndex = s.sampleIndex := rfl
@[simp] theorem respond_sampleCount (r : Response) (s : State) : (respond r s).sampleCount = s.sampleCount := rfl
@[simp] theorem respond_buf (r : Response) (s : State) : (respond r s).buf = s.buf := rfl
@[simp] theorem respond_pttPol (r : Response) (s : State) : (respond r s).pttPol = s.pttPol := rfl
@[simp] theorem respond_nrziInit (r : Response) (s : State) : (respond r s).nrziInit = s.nrziInit := rfl
@[simp] theorem respond_ieDone (r : Response) (s : State) : (respond r s).ieDone = s.ieDone := rfl
@[simp] theorem respond_ieErr (r : Response) (s : State) : (respond r s).ieErr = s.ieErr := rfl
@[simp] theorem respond_evDone (r : Response) (s : State) : (respond r s).evDone = s.evDone := rfl
@[simp] theorem respond_evErr (r : Response) (s : State) : (respond r s).evErr = s.evErr := rfl
@[simp] theorem respond_evAccErr (r : Response) (s : State) : (respond r s).evAccErr = s.evAccErr := rfl
@[simp] theorem respond_errCode (r : Response) (s : State) : (respond r s).errCode = s.errCode := rfl
@[simp] theorem respond_frameLen (r : Response) (s : State) : (respond r s).frameLen = s.frameLen := rfl
@[simp] theorem respond_preambleMs (r : Response) (s : State) : (respond r s).preambleMs = s.preambleMs := rfl
@[simp] theorem respond_tailMs (r : Response) (s : State) : (respond r s).tailMs = s.tailMs := rfl
@[simp] theorem respond_pttLeadMs (r : Response) (s : State) : (respond r s).pttLeadMs = s.pttLeadMs := rfl
@[simp] theorem respond_pttTrailMs (r : Response) (s : State) : (respond r s).pttTrailMs = s.pttTrailMs := rfl
@[simp] theorem respond_inbox (r : Response) (s : State) : (respond r s).inbox = s.inbox := rfl
@[simp] theorem respond_response (r : Response) (s : State) : (respond r s).response = r := rfl
@[simp] theorem respond_draws (r : Response) (s : State) : (respond r s).draws = s.draws := rfl

/-! ## `reject` -/

@[simp] theorem reject_seqState (c : ErrCode) (s : State) : (reject c s).seqState = s.seqState := rfl
@[simp] theorem reject_pttAsserted (c : ErrCode) (s : State) : (reject c s).pttAsserted = s.pttAsserted := rfl
@[simp] theorem reject_drained (c : ErrCode) (s : State) : (reject c s).drained = s.drained := rfl
@[simp] theorem reject_cancelPend (c : ErrCode) (s : State) : (reject c s).cancelPend = s.cancelPend := rfl
@[simp] theorem reject_leadCnt (c : ErrCode) (s : State) : (reject c s).leadCnt = s.leadCnt := rfl
@[simp] theorem reject_trailCnt (c : ErrCode) (s : State) : (reject c s).trailCnt = s.trailCnt := rfl
@[simp] theorem reject_latLen (c : ErrCode) (s : State) : (reject c s).latLen = s.latLen := rfl
@[simp] theorem reject_latPre (c : ErrCode) (s : State) : (reject c s).latPre = s.latPre := rfl
@[simp] theorem reject_latTail (c : ErrCode) (s : State) : (reject c s).latTail = s.latTail := rfl
@[simp] theorem reject_latTrail (c : ErrCode) (s : State) : (reject c s).latTrail = s.latTrail := rfl
@[simp] theorem reject_encState (c : ErrCode) (s : State) : (reject c s).encState = s.encState := rfl
@[simp] theorem reject_flagsLeft (c : ErrCode) (s : State) : (reject c s).flagsLeft = s.flagsLeft := rfl
@[simp] theorem reject_bitPos (c : ErrCode) (s : State) : (reject c s).bitPos = s.bitPos := rfl
@[simp] theorem reject_byteIdx (c : ErrCode) (s : State) : (reject c s).byteIdx = s.byteIdx := rfl
@[simp] theorem reject_ones (c : ErrCode) (s : State) : (reject c s).ones = s.ones := rfl
@[simp] theorem reject_crc (c : ErrCode) (s : State) : (reject c s).crc = s.crc := rfl
@[simp] theorem reject_fcs (c : ErrCode) (s : State) : (reject c s).fcs = s.fcs := rfl
@[simp] theorem reject_tone (c : ErrCode) (s : State) : (reject c s).tone = s.tone := rfl
@[simp] theorem reject_phaseAcc (c : ErrCode) (s : State) : (reject c s).phaseAcc = s.phaseAcc := rfl
@[simp] theorem reject_phaseInc (c : ErrCode) (s : State) : (reject c s).phaseInc = s.phaseInc := rfl
@[simp] theorem reject_sampleIndex (c : ErrCode) (s : State) : (reject c s).sampleIndex = s.sampleIndex := rfl
@[simp] theorem reject_sampleCount (c : ErrCode) (s : State) : (reject c s).sampleCount = s.sampleCount := rfl
@[simp] theorem reject_buf (c : ErrCode) (s : State) : (reject c s).buf = s.buf := rfl
@[simp] theorem reject_pttPol (c : ErrCode) (s : State) : (reject c s).pttPol = s.pttPol := rfl
@[simp] theorem reject_nrziInit (c : ErrCode) (s : State) : (reject c s).nrziInit = s.nrziInit := rfl
@[simp] theorem reject_ieDone (c : ErrCode) (s : State) : (reject c s).ieDone = s.ieDone := rfl
@[simp] theorem reject_ieErr (c : ErrCode) (s : State) : (reject c s).ieErr = s.ieErr := rfl
@[simp] theorem reject_evDone (c : ErrCode) (s : State) : (reject c s).evDone = s.evDone := rfl
@[simp] theorem reject_evErr (c : ErrCode) (s : State) : (reject c s).evErr = true := rfl
@[simp] theorem reject_evAccErr (c : ErrCode) (s : State) : (reject c s).evAccErr = s.evAccErr := rfl
@[simp] theorem reject_errCode (c : ErrCode) (s : State) : (reject c s).errCode = c := rfl
@[simp] theorem reject_frameLen (c : ErrCode) (s : State) : (reject c s).frameLen = s.frameLen := rfl
@[simp] theorem reject_preambleMs (c : ErrCode) (s : State) : (reject c s).preambleMs = s.preambleMs := rfl
@[simp] theorem reject_tailMs (c : ErrCode) (s : State) : (reject c s).tailMs = s.tailMs := rfl
@[simp] theorem reject_pttLeadMs (c : ErrCode) (s : State) : (reject c s).pttLeadMs = s.pttLeadMs := rfl
@[simp] theorem reject_pttTrailMs (c : ErrCode) (s : State) : (reject c s).pttTrailMs = s.pttTrailMs := rfl
@[simp] theorem reject_inbox (c : ErrCode) (s : State) : (reject c s).inbox = s.inbox := rfl
@[simp] theorem reject_response (c : ErrCode) (s : State) : (reject c s).response = s.response := rfl
@[simp] theorem reject_draws (c : ErrCode) (s : State) : (reject c s).draws = s.draws := rfl

/-! ## `accErr` -/

@[simp] theorem accErr_seqState (s : State) : (accErr s).seqState = s.seqState := rfl
@[simp] theorem accErr_pttAsserted (s : State) : (accErr s).pttAsserted = s.pttAsserted := rfl
@[simp] theorem accErr_drained (s : State) : (accErr s).drained = s.drained := rfl
@[simp] theorem accErr_cancelPend (s : State) : (accErr s).cancelPend = s.cancelPend := rfl
@[simp] theorem accErr_leadCnt (s : State) : (accErr s).leadCnt = s.leadCnt := rfl
@[simp] theorem accErr_trailCnt (s : State) : (accErr s).trailCnt = s.trailCnt := rfl
@[simp] theorem accErr_latLen (s : State) : (accErr s).latLen = s.latLen := rfl
@[simp] theorem accErr_latPre (s : State) : (accErr s).latPre = s.latPre := rfl
@[simp] theorem accErr_latTail (s : State) : (accErr s).latTail = s.latTail := rfl
@[simp] theorem accErr_latTrail (s : State) : (accErr s).latTrail = s.latTrail := rfl
@[simp] theorem accErr_encState (s : State) : (accErr s).encState = s.encState := rfl
@[simp] theorem accErr_flagsLeft (s : State) : (accErr s).flagsLeft = s.flagsLeft := rfl
@[simp] theorem accErr_bitPos (s : State) : (accErr s).bitPos = s.bitPos := rfl
@[simp] theorem accErr_byteIdx (s : State) : (accErr s).byteIdx = s.byteIdx := rfl
@[simp] theorem accErr_ones (s : State) : (accErr s).ones = s.ones := rfl
@[simp] theorem accErr_crc (s : State) : (accErr s).crc = s.crc := rfl
@[simp] theorem accErr_fcs (s : State) : (accErr s).fcs = s.fcs := rfl
@[simp] theorem accErr_tone (s : State) : (accErr s).tone = s.tone := rfl
@[simp] theorem accErr_phaseAcc (s : State) : (accErr s).phaseAcc = s.phaseAcc := rfl
@[simp] theorem accErr_phaseInc (s : State) : (accErr s).phaseInc = s.phaseInc := rfl
@[simp] theorem accErr_sampleIndex (s : State) : (accErr s).sampleIndex = s.sampleIndex := rfl
@[simp] theorem accErr_sampleCount (s : State) : (accErr s).sampleCount = s.sampleCount := rfl
@[simp] theorem accErr_buf (s : State) : (accErr s).buf = s.buf := rfl
@[simp] theorem accErr_pttPol (s : State) : (accErr s).pttPol = s.pttPol := rfl
@[simp] theorem accErr_nrziInit (s : State) : (accErr s).nrziInit = s.nrziInit := rfl
@[simp] theorem accErr_ieDone (s : State) : (accErr s).ieDone = s.ieDone := rfl
@[simp] theorem accErr_ieErr (s : State) : (accErr s).ieErr = s.ieErr := rfl
@[simp] theorem accErr_evDone (s : State) : (accErr s).evDone = s.evDone := rfl
@[simp] theorem accErr_evErr (s : State) : (accErr s).evErr = s.evErr := rfl
@[simp] theorem accErr_evAccErr (s : State) : (accErr s).evAccErr = true := rfl
@[simp] theorem accErr_errCode (s : State) : (accErr s).errCode = s.errCode := rfl
@[simp] theorem accErr_frameLen (s : State) : (accErr s).frameLen = s.frameLen := rfl
@[simp] theorem accErr_preambleMs (s : State) : (accErr s).preambleMs = s.preambleMs := rfl
@[simp] theorem accErr_tailMs (s : State) : (accErr s).tailMs = s.tailMs := rfl
@[simp] theorem accErr_pttLeadMs (s : State) : (accErr s).pttLeadMs = s.pttLeadMs := rfl
@[simp] theorem accErr_pttTrailMs (s : State) : (accErr s).pttTrailMs = s.pttTrailMs := rfl
@[simp] theorem accErr_inbox (s : State) : (accErr s).inbox = s.inbox := rfl
@[simp] theorem accErr_response (s : State) : (accErr s).response = s.response := rfl
@[simp] theorem accErr_draws (s : State) : (accErr s).draws = s.draws := rfl

/-! ## `badRead` -/

@[simp] theorem badRead_seqState (s : State) : (badRead s).seqState = s.seqState := rfl
@[simp] theorem badRead_pttAsserted (s : State) : (badRead s).pttAsserted = s.pttAsserted := rfl
@[simp] theorem badRead_drained (s : State) : (badRead s).drained = s.drained := rfl
@[simp] theorem badRead_cancelPend (s : State) : (badRead s).cancelPend = s.cancelPend := rfl
@[simp] theorem badRead_leadCnt (s : State) : (badRead s).leadCnt = s.leadCnt := rfl
@[simp] theorem badRead_trailCnt (s : State) : (badRead s).trailCnt = s.trailCnt := rfl
@[simp] theorem badRead_latLen (s : State) : (badRead s).latLen = s.latLen := rfl
@[simp] theorem badRead_latPre (s : State) : (badRead s).latPre = s.latPre := rfl
@[simp] theorem badRead_latTail (s : State) : (badRead s).latTail = s.latTail := rfl
@[simp] theorem badRead_latTrail (s : State) : (badRead s).latTrail = s.latTrail := rfl
@[simp] theorem badRead_encState (s : State) : (badRead s).encState = s.encState := rfl
@[simp] theorem badRead_flagsLeft (s : State) : (badRead s).flagsLeft = s.flagsLeft := rfl
@[simp] theorem badRead_bitPos (s : State) : (badRead s).bitPos = s.bitPos := rfl
@[simp] theorem badRead_byteIdx (s : State) : (badRead s).byteIdx = s.byteIdx := rfl
@[simp] theorem badRead_ones (s : State) : (badRead s).ones = s.ones := rfl
@[simp] theorem badRead_crc (s : State) : (badRead s).crc = s.crc := rfl
@[simp] theorem badRead_fcs (s : State) : (badRead s).fcs = s.fcs := rfl
@[simp] theorem badRead_tone (s : State) : (badRead s).tone = s.tone := rfl
@[simp] theorem badRead_phaseAcc (s : State) : (badRead s).phaseAcc = s.phaseAcc := rfl
@[simp] theorem badRead_phaseInc (s : State) : (badRead s).phaseInc = s.phaseInc := rfl
@[simp] theorem badRead_sampleIndex (s : State) : (badRead s).sampleIndex = s.sampleIndex := rfl
@[simp] theorem badRead_sampleCount (s : State) : (badRead s).sampleCount = s.sampleCount := rfl
@[simp] theorem badRead_buf (s : State) : (badRead s).buf = s.buf := rfl
@[simp] theorem badRead_pttPol (s : State) : (badRead s).pttPol = s.pttPol := rfl
@[simp] theorem badRead_nrziInit (s : State) : (badRead s).nrziInit = s.nrziInit := rfl
@[simp] theorem badRead_ieDone (s : State) : (badRead s).ieDone = s.ieDone := rfl
@[simp] theorem badRead_ieErr (s : State) : (badRead s).ieErr = s.ieErr := rfl
@[simp] theorem badRead_evDone (s : State) : (badRead s).evDone = s.evDone := rfl
@[simp] theorem badRead_evErr (s : State) : (badRead s).evErr = s.evErr := rfl
@[simp] theorem badRead_evAccErr (s : State) : (badRead s).evAccErr = true := rfl
@[simp] theorem badRead_errCode (s : State) : (badRead s).errCode = s.errCode := rfl
@[simp] theorem badRead_frameLen (s : State) : (badRead s).frameLen = s.frameLen := rfl
@[simp] theorem badRead_preambleMs (s : State) : (badRead s).preambleMs = s.preambleMs := rfl
@[simp] theorem badRead_tailMs (s : State) : (badRead s).tailMs = s.tailMs := rfl
@[simp] theorem badRead_pttLeadMs (s : State) : (badRead s).pttLeadMs = s.pttLeadMs := rfl
@[simp] theorem badRead_pttTrailMs (s : State) : (badRead s).pttTrailMs = s.pttTrailMs := rfl
@[simp] theorem badRead_inbox (s : State) : (badRead s).inbox = s.inbox := rfl
@[simp] theorem badRead_response (s : State) : (badRead s).response = .rdata 0 := rfl
@[simp] theorem badRead_draws (s : State) : (badRead s).draws = s.draws := rfl

/-! ## `badWrite` -/

@[simp] theorem badWrite_seqState (s : State) : (badWrite s).seqState = s.seqState := rfl
@[simp] theorem badWrite_pttAsserted (s : State) : (badWrite s).pttAsserted = s.pttAsserted := rfl
@[simp] theorem badWrite_drained (s : State) : (badWrite s).drained = s.drained := rfl
@[simp] theorem badWrite_cancelPend (s : State) : (badWrite s).cancelPend = s.cancelPend := rfl
@[simp] theorem badWrite_leadCnt (s : State) : (badWrite s).leadCnt = s.leadCnt := rfl
@[simp] theorem badWrite_trailCnt (s : State) : (badWrite s).trailCnt = s.trailCnt := rfl
@[simp] theorem badWrite_latLen (s : State) : (badWrite s).latLen = s.latLen := rfl
@[simp] theorem badWrite_latPre (s : State) : (badWrite s).latPre = s.latPre := rfl
@[simp] theorem badWrite_latTail (s : State) : (badWrite s).latTail = s.latTail := rfl
@[simp] theorem badWrite_latTrail (s : State) : (badWrite s).latTrail = s.latTrail := rfl
@[simp] theorem badWrite_encState (s : State) : (badWrite s).encState = s.encState := rfl
@[simp] theorem badWrite_flagsLeft (s : State) : (badWrite s).flagsLeft = s.flagsLeft := rfl
@[simp] theorem badWrite_bitPos (s : State) : (badWrite s).bitPos = s.bitPos := rfl
@[simp] theorem badWrite_byteIdx (s : State) : (badWrite s).byteIdx = s.byteIdx := rfl
@[simp] theorem badWrite_ones (s : State) : (badWrite s).ones = s.ones := rfl
@[simp] theorem badWrite_crc (s : State) : (badWrite s).crc = s.crc := rfl
@[simp] theorem badWrite_fcs (s : State) : (badWrite s).fcs = s.fcs := rfl
@[simp] theorem badWrite_tone (s : State) : (badWrite s).tone = s.tone := rfl
@[simp] theorem badWrite_phaseAcc (s : State) : (badWrite s).phaseAcc = s.phaseAcc := rfl
@[simp] theorem badWrite_phaseInc (s : State) : (badWrite s).phaseInc = s.phaseInc := rfl
@[simp] theorem badWrite_sampleIndex (s : State) : (badWrite s).sampleIndex = s.sampleIndex := rfl
@[simp] theorem badWrite_sampleCount (s : State) : (badWrite s).sampleCount = s.sampleCount := rfl
@[simp] theorem badWrite_buf (s : State) : (badWrite s).buf = s.buf := rfl
@[simp] theorem badWrite_pttPol (s : State) : (badWrite s).pttPol = s.pttPol := rfl
@[simp] theorem badWrite_nrziInit (s : State) : (badWrite s).nrziInit = s.nrziInit := rfl
@[simp] theorem badWrite_ieDone (s : State) : (badWrite s).ieDone = s.ieDone := rfl
@[simp] theorem badWrite_ieErr (s : State) : (badWrite s).ieErr = s.ieErr := rfl
@[simp] theorem badWrite_evDone (s : State) : (badWrite s).evDone = s.evDone := rfl
@[simp] theorem badWrite_evErr (s : State) : (badWrite s).evErr = s.evErr := rfl
@[simp] theorem badWrite_evAccErr (s : State) : (badWrite s).evAccErr = true := rfl
@[simp] theorem badWrite_errCode (s : State) : (badWrite s).errCode = s.errCode := rfl
@[simp] theorem badWrite_frameLen (s : State) : (badWrite s).frameLen = s.frameLen := rfl
@[simp] theorem badWrite_preambleMs (s : State) : (badWrite s).preambleMs = s.preambleMs := rfl
@[simp] theorem badWrite_tailMs (s : State) : (badWrite s).tailMs = s.tailMs := rfl
@[simp] theorem badWrite_pttLeadMs (s : State) : (badWrite s).pttLeadMs = s.pttLeadMs := rfl
@[simp] theorem badWrite_pttTrailMs (s : State) : (badWrite s).pttTrailMs = s.pttTrailMs := rfl
@[simp] theorem badWrite_inbox (s : State) : (badWrite s).inbox = s.inbox := rfl
@[simp] theorem badWrite_response (s : State) : (badWrite s).response = .none := rfl
@[simp] theorem badWrite_draws (s : State) : (badWrite s).draws = s.draws := rfl

/-! ## `clearEvents` -/

@[simp] theorem clearEvents_seqState (w : Word) (s : State) : (clearEvents w s).seqState = s.seqState := rfl
@[simp] theorem clearEvents_pttAsserted (w : Word) (s : State) : (clearEvents w s).pttAsserted = s.pttAsserted := rfl
@[simp] theorem clearEvents_drained (w : Word) (s : State) : (clearEvents w s).drained = s.drained := rfl
@[simp] theorem clearEvents_cancelPend (w : Word) (s : State) : (clearEvents w s).cancelPend = s.cancelPend := rfl
@[simp] theorem clearEvents_leadCnt (w : Word) (s : State) : (clearEvents w s).leadCnt = s.leadCnt := rfl
@[simp] theorem clearEvents_trailCnt (w : Word) (s : State) : (clearEvents w s).trailCnt = s.trailCnt := rfl
@[simp] theorem clearEvents_latLen (w : Word) (s : State) : (clearEvents w s).latLen = s.latLen := rfl
@[simp] theorem clearEvents_latPre (w : Word) (s : State) : (clearEvents w s).latPre = s.latPre := rfl
@[simp] theorem clearEvents_latTail (w : Word) (s : State) : (clearEvents w s).latTail = s.latTail := rfl
@[simp] theorem clearEvents_latTrail (w : Word) (s : State) : (clearEvents w s).latTrail = s.latTrail := rfl
@[simp] theorem clearEvents_encState (w : Word) (s : State) : (clearEvents w s).encState = s.encState := rfl
@[simp] theorem clearEvents_flagsLeft (w : Word) (s : State) : (clearEvents w s).flagsLeft = s.flagsLeft := rfl
@[simp] theorem clearEvents_bitPos (w : Word) (s : State) : (clearEvents w s).bitPos = s.bitPos := rfl
@[simp] theorem clearEvents_byteIdx (w : Word) (s : State) : (clearEvents w s).byteIdx = s.byteIdx := rfl
@[simp] theorem clearEvents_ones (w : Word) (s : State) : (clearEvents w s).ones = s.ones := rfl
@[simp] theorem clearEvents_crc (w : Word) (s : State) : (clearEvents w s).crc = s.crc := rfl
@[simp] theorem clearEvents_fcs (w : Word) (s : State) : (clearEvents w s).fcs = s.fcs := rfl
@[simp] theorem clearEvents_tone (w : Word) (s : State) : (clearEvents w s).tone = s.tone := rfl
@[simp] theorem clearEvents_phaseAcc (w : Word) (s : State) : (clearEvents w s).phaseAcc = s.phaseAcc := rfl
@[simp] theorem clearEvents_phaseInc (w : Word) (s : State) : (clearEvents w s).phaseInc = s.phaseInc := rfl
@[simp] theorem clearEvents_sampleIndex (w : Word) (s : State) : (clearEvents w s).sampleIndex = s.sampleIndex := rfl
@[simp] theorem clearEvents_sampleCount (w : Word) (s : State) : (clearEvents w s).sampleCount = s.sampleCount := rfl
@[simp] theorem clearEvents_buf (w : Word) (s : State) : (clearEvents w s).buf = s.buf := rfl
@[simp] theorem clearEvents_pttPol (w : Word) (s : State) : (clearEvents w s).pttPol = s.pttPol := rfl
@[simp] theorem clearEvents_nrziInit (w : Word) (s : State) : (clearEvents w s).nrziInit = s.nrziInit := rfl
@[simp] theorem clearEvents_ieDone (w : Word) (s : State) : (clearEvents w s).ieDone = s.ieDone := rfl
@[simp] theorem clearEvents_ieErr (w : Word) (s : State) : (clearEvents w s).ieErr = s.ieErr := rfl
@[simp] theorem clearEvents_evDone (w : Word) (s : State) : (clearEvents w s).evDone = if operandClearsDone w then false else s.evDone := rfl
@[simp] theorem clearEvents_evErr (w : Word) (s : State) : (clearEvents w s).evErr = if operandClearsErr w then false else s.evErr := rfl
@[simp] theorem clearEvents_evAccErr (w : Word) (s : State) : (clearEvents w s).evAccErr = if operandClearsAccErr w then false else s.evAccErr := rfl
@[simp] theorem clearEvents_errCode (w : Word) (s : State) : (clearEvents w s).errCode = if operandClearsErr w then .none else s.errCode := rfl
@[simp] theorem clearEvents_frameLen (w : Word) (s : State) : (clearEvents w s).frameLen = s.frameLen := rfl
@[simp] theorem clearEvents_preambleMs (w : Word) (s : State) : (clearEvents w s).preambleMs = s.preambleMs := rfl
@[simp] theorem clearEvents_tailMs (w : Word) (s : State) : (clearEvents w s).tailMs = s.tailMs := rfl
@[simp] theorem clearEvents_pttLeadMs (w : Word) (s : State) : (clearEvents w s).pttLeadMs = s.pttLeadMs := rfl
@[simp] theorem clearEvents_pttTrailMs (w : Word) (s : State) : (clearEvents w s).pttTrailMs = s.pttTrailMs := rfl
@[simp] theorem clearEvents_inbox (w : Word) (s : State) : (clearEvents w s).inbox = s.inbox := rfl
@[simp] theorem clearEvents_response (w : Word) (s : State) : (clearEvents w s).response = s.response := rfl
@[simp] theorem clearEvents_draws (w : Word) (s : State) : (clearEvents w s).draws = s.draws := rfl

/-! ## `storeBuf` -/

@[simp] theorem storeBuf_seqState (s : State) (i : Nat) (b : Byte) : (s.storeBuf i b).seqState = s.seqState := rfl
@[simp] theorem storeBuf_pttAsserted (s : State) (i : Nat) (b : Byte) : (s.storeBuf i b).pttAsserted = s.pttAsserted := rfl
@[simp] theorem storeBuf_drained (s : State) (i : Nat) (b : Byte) : (s.storeBuf i b).drained = s.drained := rfl
@[simp] theorem storeBuf_cancelPend (s : State) (i : Nat) (b : Byte) : (s.storeBuf i b).cancelPend = s.cancelPend := rfl
@[simp] theorem storeBuf_leadCnt (s : State) (i : Nat) (b : Byte) : (s.storeBuf i b).leadCnt = s.leadCnt := rfl
@[simp] theorem storeBuf_trailCnt (s : State) (i : Nat) (b : Byte) : (s.storeBuf i b).trailCnt = s.trailCnt := rfl
@[simp] theorem storeBuf_latLen (s : State) (i : Nat) (b : Byte) : (s.storeBuf i b).latLen = s.latLen := rfl
@[simp] theorem storeBuf_latPre (s : State) (i : Nat) (b : Byte) : (s.storeBuf i b).latPre = s.latPre := rfl
@[simp] theorem storeBuf_latTail (s : State) (i : Nat) (b : Byte) : (s.storeBuf i b).latTail = s.latTail := rfl
@[simp] theorem storeBuf_latTrail (s : State) (i : Nat) (b : Byte) : (s.storeBuf i b).latTrail = s.latTrail := rfl
@[simp] theorem storeBuf_encState (s : State) (i : Nat) (b : Byte) : (s.storeBuf i b).encState = s.encState := rfl
@[simp] theorem storeBuf_flagsLeft (s : State) (i : Nat) (b : Byte) : (s.storeBuf i b).flagsLeft = s.flagsLeft := rfl
@[simp] theorem storeBuf_bitPos (s : State) (i : Nat) (b : Byte) : (s.storeBuf i b).bitPos = s.bitPos := rfl
@[simp] theorem storeBuf_byteIdx (s : State) (i : Nat) (b : Byte) : (s.storeBuf i b).byteIdx = s.byteIdx := rfl
@[simp] theorem storeBuf_ones (s : State) (i : Nat) (b : Byte) : (s.storeBuf i b).ones = s.ones := rfl
@[simp] theorem storeBuf_crc (s : State) (i : Nat) (b : Byte) : (s.storeBuf i b).crc = s.crc := rfl
@[simp] theorem storeBuf_fcs (s : State) (i : Nat) (b : Byte) : (s.storeBuf i b).fcs = s.fcs := rfl
@[simp] theorem storeBuf_tone (s : State) (i : Nat) (b : Byte) : (s.storeBuf i b).tone = s.tone := rfl
@[simp] theorem storeBuf_phaseAcc (s : State) (i : Nat) (b : Byte) : (s.storeBuf i b).phaseAcc = s.phaseAcc := rfl
@[simp] theorem storeBuf_phaseInc (s : State) (i : Nat) (b : Byte) : (s.storeBuf i b).phaseInc = s.phaseInc := rfl
@[simp] theorem storeBuf_sampleIndex (s : State) (i : Nat) (b : Byte) : (s.storeBuf i b).sampleIndex = s.sampleIndex := rfl
@[simp] theorem storeBuf_sampleCount (s : State) (i : Nat) (b : Byte) : (s.storeBuf i b).sampleCount = s.sampleCount := rfl
@[simp] theorem storeBuf_buf (s : State) (i : Nat) (b : Byte) : (s.storeBuf i b).buf = Memory.store s.buf i b := rfl
@[simp] theorem storeBuf_pttPol (s : State) (i : Nat) (b : Byte) : (s.storeBuf i b).pttPol = s.pttPol := rfl
@[simp] theorem storeBuf_nrziInit (s : State) (i : Nat) (b : Byte) : (s.storeBuf i b).nrziInit = s.nrziInit := rfl
@[simp] theorem storeBuf_ieDone (s : State) (i : Nat) (b : Byte) : (s.storeBuf i b).ieDone = s.ieDone := rfl
@[simp] theorem storeBuf_ieErr (s : State) (i : Nat) (b : Byte) : (s.storeBuf i b).ieErr = s.ieErr := rfl
@[simp] theorem storeBuf_evDone (s : State) (i : Nat) (b : Byte) : (s.storeBuf i b).evDone = s.evDone := rfl
@[simp] theorem storeBuf_evErr (s : State) (i : Nat) (b : Byte) : (s.storeBuf i b).evErr = s.evErr := rfl
@[simp] theorem storeBuf_evAccErr (s : State) (i : Nat) (b : Byte) : (s.storeBuf i b).evAccErr = s.evAccErr := rfl
@[simp] theorem storeBuf_errCode (s : State) (i : Nat) (b : Byte) : (s.storeBuf i b).errCode = s.errCode := rfl
@[simp] theorem storeBuf_frameLen (s : State) (i : Nat) (b : Byte) : (s.storeBuf i b).frameLen = s.frameLen := rfl
@[simp] theorem storeBuf_preambleMs (s : State) (i : Nat) (b : Byte) : (s.storeBuf i b).preambleMs = s.preambleMs := rfl
@[simp] theorem storeBuf_tailMs (s : State) (i : Nat) (b : Byte) : (s.storeBuf i b).tailMs = s.tailMs := rfl
@[simp] theorem storeBuf_pttLeadMs (s : State) (i : Nat) (b : Byte) : (s.storeBuf i b).pttLeadMs = s.pttLeadMs := rfl
@[simp] theorem storeBuf_pttTrailMs (s : State) (i : Nat) (b : Byte) : (s.storeBuf i b).pttTrailMs = s.pttTrailMs := rfl
@[simp] theorem storeBuf_inbox (s : State) (i : Nat) (b : Byte) : (s.storeBuf i b).inbox = s.inbox := rfl
@[simp] theorem storeBuf_response (s : State) (i : Nat) (b : Byte) : (s.storeBuf i b).response = s.response := rfl
@[simp] theorem storeBuf_draws (s : State) (i : Nat) (b : Byte) : (s.storeBuf i b).draws = s.draws := rfl

/-! ## `latchSession` -/

@[simp] theorem latchSession_seqState (s : State) : (latchSession s).seqState = s.seqState := rfl
@[simp] theorem latchSession_pttAsserted (s : State) : (latchSession s).pttAsserted = s.pttAsserted := rfl
@[simp] theorem latchSession_drained (s : State) : (latchSession s).drained = s.drained := rfl
@[simp] theorem latchSession_cancelPend (s : State) : (latchSession s).cancelPend = s.cancelPend := rfl
@[simp] theorem latchSession_leadCnt (s : State) : (latchSession s).leadCnt = s.pttLeadMs := rfl
@[simp] theorem latchSession_trailCnt (s : State) : (latchSession s).trailCnt = 0 := rfl
@[simp] theorem latchSession_latLen (s : State) : (latchSession s).latLen = s.frameLen := rfl
@[simp] theorem latchSession_latPre (s : State) : (latchSession s).latPre = BitVec.ofNat 8 (nflags s.preambleMs.toNat) := rfl
@[simp] theorem latchSession_latTail (s : State) : (latchSession s).latTail = BitVec.ofNat 8 (nflags s.tailMs.toNat) := rfl
@[simp] theorem latchSession_latTrail (s : State) : (latchSession s).latTrail = s.pttTrailMs := rfl
@[simp] theorem latchSession_encState (s : State) : (latchSession s).encState = s.encState := rfl
@[simp] theorem latchSession_flagsLeft (s : State) : (latchSession s).flagsLeft = s.flagsLeft := rfl
@[simp] theorem latchSession_bitPos (s : State) : (latchSession s).bitPos = s.bitPos := rfl
@[simp] theorem latchSession_byteIdx (s : State) : (latchSession s).byteIdx = s.byteIdx := rfl
@[simp] theorem latchSession_ones (s : State) : (latchSession s).ones = s.ones := rfl
@[simp] theorem latchSession_crc (s : State) : (latchSession s).crc = s.crc := rfl
@[simp] theorem latchSession_fcs (s : State) : (latchSession s).fcs = s.fcs := rfl
@[simp] theorem latchSession_tone (s : State) : (latchSession s).tone = s.tone := rfl
@[simp] theorem latchSession_phaseAcc (s : State) : (latchSession s).phaseAcc = s.phaseAcc := rfl
@[simp] theorem latchSession_phaseInc (s : State) : (latchSession s).phaseInc = s.phaseInc := rfl
@[simp] theorem latchSession_sampleIndex (s : State) : (latchSession s).sampleIndex = s.sampleIndex := rfl
@[simp] theorem latchSession_sampleCount (s : State) : (latchSession s).sampleCount = s.sampleCount := rfl
@[simp] theorem latchSession_buf (s : State) : (latchSession s).buf = s.buf := rfl
@[simp] theorem latchSession_pttPol (s : State) : (latchSession s).pttPol = s.pttPol := rfl
@[simp] theorem latchSession_nrziInit (s : State) : (latchSession s).nrziInit = s.nrziInit := rfl
@[simp] theorem latchSession_ieDone (s : State) : (latchSession s).ieDone = s.ieDone := rfl
@[simp] theorem latchSession_ieErr (s : State) : (latchSession s).ieErr = s.ieErr := rfl
@[simp] theorem latchSession_evDone (s : State) : (latchSession s).evDone = s.evDone := rfl
@[simp] theorem latchSession_evErr (s : State) : (latchSession s).evErr = s.evErr := rfl
@[simp] theorem latchSession_evAccErr (s : State) : (latchSession s).evAccErr = s.evAccErr := rfl
@[simp] theorem latchSession_errCode (s : State) : (latchSession s).errCode = s.errCode := rfl
@[simp] theorem latchSession_frameLen (s : State) : (latchSession s).frameLen = s.frameLen := rfl
@[simp] theorem latchSession_preambleMs (s : State) : (latchSession s).preambleMs = s.preambleMs := rfl
@[simp] theorem latchSession_tailMs (s : State) : (latchSession s).tailMs = s.tailMs := rfl
@[simp] theorem latchSession_pttLeadMs (s : State) : (latchSession s).pttLeadMs = s.pttLeadMs := rfl
@[simp] theorem latchSession_pttTrailMs (s : State) : (latchSession s).pttTrailMs = s.pttTrailMs := rfl
@[simp] theorem latchSession_inbox (s : State) : (latchSession s).inbox = s.inbox := rfl
@[simp] theorem latchSession_response (s : State) : (latchSession s).response = s.response := rfl
@[simp] theorem latchSession_draws (s : State) : (latchSession s).draws = s.draws := rfl

/-! ## `encInit` -/

@[simp] theorem encInit_seqState (s : State) : (encInit s).seqState = s.seqState := rfl
@[simp] theorem encInit_pttAsserted (s : State) : (encInit s).pttAsserted = s.pttAsserted := rfl
@[simp] theorem encInit_drained (s : State) : (encInit s).drained = s.drained := rfl
@[simp] theorem encInit_cancelPend (s : State) : (encInit s).cancelPend = s.cancelPend := rfl
@[simp] theorem encInit_leadCnt (s : State) : (encInit s).leadCnt = s.leadCnt := rfl
@[simp] theorem encInit_trailCnt (s : State) : (encInit s).trailCnt = s.trailCnt := rfl
@[simp] theorem encInit_latLen (s : State) : (encInit s).latLen = s.latLen := rfl
@[simp] theorem encInit_latPre (s : State) : (encInit s).latPre = s.latPre := rfl
@[simp] theorem encInit_latTail (s : State) : (encInit s).latTail = s.latTail := rfl
@[simp] theorem encInit_latTrail (s : State) : (encInit s).latTrail = s.latTrail := rfl
@[simp] theorem encInit_encState (s : State) : (encInit s).encState = .preamble := rfl
@[simp] theorem encInit_flagsLeft (s : State) : (encInit s).flagsLeft = s.latPre := rfl
@[simp] theorem encInit_bitPos (s : State) : (encInit s).bitPos = 0 := rfl
@[simp] theorem encInit_byteIdx (s : State) : (encInit s).byteIdx = 0 := rfl
@[simp] theorem encInit_ones (s : State) : (encInit s).ones = 0 := rfl
@[simp] theorem encInit_crc (s : State) : (encInit s).crc = 0xFFFF := rfl
@[simp] theorem encInit_fcs (s : State) : (encInit s).fcs = s.fcs := rfl
@[simp] theorem encInit_tone (s : State) : (encInit s).tone = s.tone := rfl
@[simp] theorem encInit_phaseAcc (s : State) : (encInit s).phaseAcc = s.phaseAcc := rfl
@[simp] theorem encInit_phaseInc (s : State) : (encInit s).phaseInc = s.phaseInc := rfl
@[simp] theorem encInit_sampleIndex (s : State) : (encInit s).sampleIndex = s.sampleIndex := rfl
@[simp] theorem encInit_sampleCount (s : State) : (encInit s).sampleCount = s.sampleCount := rfl
@[simp] theorem encInit_buf (s : State) : (encInit s).buf = s.buf := rfl
@[simp] theorem encInit_pttPol (s : State) : (encInit s).pttPol = s.pttPol := rfl
@[simp] theorem encInit_nrziInit (s : State) : (encInit s).nrziInit = s.nrziInit := rfl
@[simp] theorem encInit_ieDone (s : State) : (encInit s).ieDone = s.ieDone := rfl
@[simp] theorem encInit_ieErr (s : State) : (encInit s).ieErr = s.ieErr := rfl
@[simp] theorem encInit_evDone (s : State) : (encInit s).evDone = s.evDone := rfl
@[simp] theorem encInit_evErr (s : State) : (encInit s).evErr = s.evErr := rfl
@[simp] theorem encInit_evAccErr (s : State) : (encInit s).evAccErr = s.evAccErr := rfl
@[simp] theorem encInit_errCode (s : State) : (encInit s).errCode = s.errCode := rfl
@[simp] theorem encInit_frameLen (s : State) : (encInit s).frameLen = s.frameLen := rfl
@[simp] theorem encInit_preambleMs (s : State) : (encInit s).preambleMs = s.preambleMs := rfl
@[simp] theorem encInit_tailMs (s : State) : (encInit s).tailMs = s.tailMs := rfl
@[simp] theorem encInit_pttLeadMs (s : State) : (encInit s).pttLeadMs = s.pttLeadMs := rfl
@[simp] theorem encInit_pttTrailMs (s : State) : (encInit s).pttTrailMs = s.pttTrailMs := rfl
@[simp] theorem encInit_inbox (s : State) : (encInit s).inbox = s.inbox := rfl
@[simp] theorem encInit_response (s : State) : (encInit s).response = s.response := rfl
@[simp] theorem encInit_draws (s : State) : (encInit s).draws = s.draws := rfl

/-! ## `keyTransmitter` -/

@[simp] theorem keyTransmitter_seqState (s : State) : (keyTransmitter s).seqState = .pttAssert := rfl
@[simp] theorem keyTransmitter_pttAsserted (s : State) : (keyTransmitter s).pttAsserted = true := rfl
@[simp] theorem keyTransmitter_drained (s : State) : (keyTransmitter s).drained = false := rfl
@[simp] theorem keyTransmitter_cancelPend (s : State) : (keyTransmitter s).cancelPend = s.cancelPend := rfl
@[simp] theorem keyTransmitter_leadCnt (s : State) : (keyTransmitter s).leadCnt = s.leadCnt := rfl
@[simp] theorem keyTransmitter_trailCnt (s : State) : (keyTransmitter s).trailCnt = s.trailCnt := rfl
@[simp] theorem keyTransmitter_latLen (s : State) : (keyTransmitter s).latLen = s.latLen := rfl
@[simp] theorem keyTransmitter_latPre (s : State) : (keyTransmitter s).latPre = s.latPre := rfl
@[simp] theorem keyTransmitter_latTail (s : State) : (keyTransmitter s).latTail = s.latTail := rfl
@[simp] theorem keyTransmitter_latTrail (s : State) : (keyTransmitter s).latTrail = s.latTrail := rfl
@[simp] theorem keyTransmitter_encState (s : State) : (keyTransmitter s).encState = s.encState := rfl
@[simp] theorem keyTransmitter_flagsLeft (s : State) : (keyTransmitter s).flagsLeft = s.flagsLeft := rfl
@[simp] theorem keyTransmitter_bitPos (s : State) : (keyTransmitter s).bitPos = s.bitPos := rfl
@[simp] theorem keyTransmitter_byteIdx (s : State) : (keyTransmitter s).byteIdx = s.byteIdx := rfl
@[simp] theorem keyTransmitter_ones (s : State) : (keyTransmitter s).ones = s.ones := rfl
@[simp] theorem keyTransmitter_crc (s : State) : (keyTransmitter s).crc = s.crc := rfl
@[simp] theorem keyTransmitter_fcs (s : State) : (keyTransmitter s).fcs = s.fcs := rfl
@[simp] theorem keyTransmitter_tone (s : State) : (keyTransmitter s).tone = Tone.ofInit s.nrziInit := rfl
@[simp] theorem keyTransmitter_phaseAcc (s : State) : (keyTransmitter s).phaseAcc = s.phaseAcc := rfl
@[simp] theorem keyTransmitter_phaseInc (s : State) : (keyTransmitter s).phaseInc = s.phaseInc := rfl
@[simp] theorem keyTransmitter_sampleIndex (s : State) : (keyTransmitter s).sampleIndex = 0 := rfl
@[simp] theorem keyTransmitter_sampleCount (s : State) : (keyTransmitter s).sampleCount = 0 := rfl
@[simp] theorem keyTransmitter_buf (s : State) : (keyTransmitter s).buf = s.buf := rfl
@[simp] theorem keyTransmitter_pttPol (s : State) : (keyTransmitter s).pttPol = s.pttPol := rfl
@[simp] theorem keyTransmitter_nrziInit (s : State) : (keyTransmitter s).nrziInit = s.nrziInit := rfl
@[simp] theorem keyTransmitter_ieDone (s : State) : (keyTransmitter s).ieDone = s.ieDone := rfl
@[simp] theorem keyTransmitter_ieErr (s : State) : (keyTransmitter s).ieErr = s.ieErr := rfl
@[simp] theorem keyTransmitter_evDone (s : State) : (keyTransmitter s).evDone = s.evDone := rfl
@[simp] theorem keyTransmitter_evErr (s : State) : (keyTransmitter s).evErr = s.evErr := rfl
@[simp] theorem keyTransmitter_evAccErr (s : State) : (keyTransmitter s).evAccErr = s.evAccErr := rfl
@[simp] theorem keyTransmitter_errCode (s : State) : (keyTransmitter s).errCode = s.errCode := rfl
@[simp] theorem keyTransmitter_frameLen (s : State) : (keyTransmitter s).frameLen = s.frameLen := rfl
@[simp] theorem keyTransmitter_preambleMs (s : State) : (keyTransmitter s).preambleMs = s.preambleMs := rfl
@[simp] theorem keyTransmitter_tailMs (s : State) : (keyTransmitter s).tailMs = s.tailMs := rfl
@[simp] theorem keyTransmitter_pttLeadMs (s : State) : (keyTransmitter s).pttLeadMs = s.pttLeadMs := rfl
@[simp] theorem keyTransmitter_pttTrailMs (s : State) : (keyTransmitter s).pttTrailMs = s.pttTrailMs := rfl
@[simp] theorem keyTransmitter_inbox (s : State) : (keyTransmitter s).inbox = s.inbox := rfl
@[simp] theorem keyTransmitter_response (s : State) : (keyTransmitter s).response = s.response := rfl
@[simp] theorem keyTransmitter_draws (s : State) : (keyTransmitter s).draws = s.draws := rfl

/-! ## `releaseTransmitter` -/

@[simp] theorem releaseTransmitter_seqState (s : State) : (releaseTransmitter s).seqState = .ready := rfl
@[simp] theorem releaseTransmitter_pttAsserted (s : State) : (releaseTransmitter s).pttAsserted = false := rfl
@[simp] theorem releaseTransmitter_drained (s : State) : (releaseTransmitter s).drained = false := rfl
@[simp] theorem releaseTransmitter_cancelPend (s : State) : (releaseTransmitter s).cancelPend = false := rfl
@[simp] theorem releaseTransmitter_leadCnt (s : State) : (releaseTransmitter s).leadCnt = s.leadCnt := rfl
@[simp] theorem releaseTransmitter_trailCnt (s : State) : (releaseTransmitter s).trailCnt = s.trailCnt := rfl
@[simp] theorem releaseTransmitter_latLen (s : State) : (releaseTransmitter s).latLen = s.latLen := rfl
@[simp] theorem releaseTransmitter_latPre (s : State) : (releaseTransmitter s).latPre = s.latPre := rfl
@[simp] theorem releaseTransmitter_latTail (s : State) : (releaseTransmitter s).latTail = s.latTail := rfl
@[simp] theorem releaseTransmitter_latTrail (s : State) : (releaseTransmitter s).latTrail = s.latTrail := rfl
@[simp] theorem releaseTransmitter_encState (s : State) : (releaseTransmitter s).encState = .idle := rfl
@[simp] theorem releaseTransmitter_flagsLeft (s : State) : (releaseTransmitter s).flagsLeft = s.flagsLeft := rfl
@[simp] theorem releaseTransmitter_bitPos (s : State) : (releaseTransmitter s).bitPos = s.bitPos := rfl
@[simp] theorem releaseTransmitter_byteIdx (s : State) : (releaseTransmitter s).byteIdx = s.byteIdx := rfl
@[simp] theorem releaseTransmitter_ones (s : State) : (releaseTransmitter s).ones = s.ones := rfl
@[simp] theorem releaseTransmitter_crc (s : State) : (releaseTransmitter s).crc = s.crc := rfl
@[simp] theorem releaseTransmitter_fcs (s : State) : (releaseTransmitter s).fcs = s.fcs := rfl
@[simp] theorem releaseTransmitter_tone (s : State) : (releaseTransmitter s).tone = s.tone := rfl
@[simp] theorem releaseTransmitter_phaseAcc (s : State) : (releaseTransmitter s).phaseAcc = s.phaseAcc := rfl
@[simp] theorem releaseTransmitter_phaseInc (s : State) : (releaseTransmitter s).phaseInc = s.phaseInc := rfl
@[simp] theorem releaseTransmitter_sampleIndex (s : State) : (releaseTransmitter s).sampleIndex = s.sampleIndex := rfl
@[simp] theorem releaseTransmitter_sampleCount (s : State) : (releaseTransmitter s).sampleCount = s.sampleCount := rfl
@[simp] theorem releaseTransmitter_buf (s : State) : (releaseTransmitter s).buf = s.buf := rfl
@[simp] theorem releaseTransmitter_pttPol (s : State) : (releaseTransmitter s).pttPol = s.pttPol := rfl
@[simp] theorem releaseTransmitter_nrziInit (s : State) : (releaseTransmitter s).nrziInit = s.nrziInit := rfl
@[simp] theorem releaseTransmitter_ieDone (s : State) : (releaseTransmitter s).ieDone = s.ieDone := rfl
@[simp] theorem releaseTransmitter_ieErr (s : State) : (releaseTransmitter s).ieErr = s.ieErr := rfl
@[simp] theorem releaseTransmitter_evDone (s : State) : (releaseTransmitter s).evDone = s.evDone := rfl
@[simp] theorem releaseTransmitter_evErr (s : State) : (releaseTransmitter s).evErr = s.evErr := rfl
@[simp] theorem releaseTransmitter_evAccErr (s : State) : (releaseTransmitter s).evAccErr = s.evAccErr := rfl
@[simp] theorem releaseTransmitter_errCode (s : State) : (releaseTransmitter s).errCode = s.errCode := rfl
@[simp] theorem releaseTransmitter_frameLen (s : State) : (releaseTransmitter s).frameLen = s.frameLen := rfl
@[simp] theorem releaseTransmitter_preambleMs (s : State) : (releaseTransmitter s).preambleMs = s.preambleMs := rfl
@[simp] theorem releaseTransmitter_tailMs (s : State) : (releaseTransmitter s).tailMs = s.tailMs := rfl
@[simp] theorem releaseTransmitter_pttLeadMs (s : State) : (releaseTransmitter s).pttLeadMs = s.pttLeadMs := rfl
@[simp] theorem releaseTransmitter_pttTrailMs (s : State) : (releaseTransmitter s).pttTrailMs = s.pttTrailMs := rfl
@[simp] theorem releaseTransmitter_inbox (s : State) : (releaseTransmitter s).inbox = s.inbox := rfl
@[simp] theorem releaseTransmitter_response (s : State) : (releaseTransmitter s).response = s.response := rfl
@[simp] theorem releaseTransmitter_draws (s : State) : (releaseTransmitter s).draws = s.draws := rfl

/-! ## `endSession` -/

@[simp] theorem endSession_seqState (s : State) : (endSession s).seqState = .ready := rfl
@[simp] theorem endSession_pttAsserted (s : State) : (endSession s).pttAsserted = false := rfl
@[simp] theorem endSession_drained (s : State) : (endSession s).drained = false := rfl
@[simp] theorem endSession_cancelPend (s : State) : (endSession s).cancelPend = false := rfl
@[simp] theorem endSession_leadCnt (s : State) : (endSession s).leadCnt = s.leadCnt := rfl
@[simp] theorem endSession_trailCnt (s : State) : (endSession s).trailCnt = s.trailCnt := rfl
@[simp] theorem endSession_latLen (s : State) : (endSession s).latLen = s.latLen := rfl
@[simp] theorem endSession_latPre (s : State) : (endSession s).latPre = s.latPre := rfl
@[simp] theorem endSession_latTail (s : State) : (endSession s).latTail = s.latTail := rfl
@[simp] theorem endSession_latTrail (s : State) : (endSession s).latTrail = s.latTrail := rfl
@[simp] theorem endSession_encState (s : State) : (endSession s).encState = .idle := rfl
@[simp] theorem endSession_flagsLeft (s : State) : (endSession s).flagsLeft = s.flagsLeft := rfl
@[simp] theorem endSession_bitPos (s : State) : (endSession s).bitPos = s.bitPos := rfl
@[simp] theorem endSession_byteIdx (s : State) : (endSession s).byteIdx = s.byteIdx := rfl
@[simp] theorem endSession_ones (s : State) : (endSession s).ones = s.ones := rfl
@[simp] theorem endSession_crc (s : State) : (endSession s).crc = s.crc := rfl
@[simp] theorem endSession_fcs (s : State) : (endSession s).fcs = s.fcs := rfl
@[simp] theorem endSession_tone (s : State) : (endSession s).tone = s.tone := rfl
@[simp] theorem endSession_phaseAcc (s : State) : (endSession s).phaseAcc = s.phaseAcc := rfl
@[simp] theorem endSession_phaseInc (s : State) : (endSession s).phaseInc = s.phaseInc := rfl
@[simp] theorem endSession_sampleIndex (s : State) : (endSession s).sampleIndex = s.sampleIndex := rfl
@[simp] theorem endSession_sampleCount (s : State) : (endSession s).sampleCount = s.sampleCount := rfl
@[simp] theorem endSession_buf (s : State) : (endSession s).buf = s.buf := rfl
@[simp] theorem endSession_pttPol (s : State) : (endSession s).pttPol = s.pttPol := rfl
@[simp] theorem endSession_nrziInit (s : State) : (endSession s).nrziInit = s.nrziInit := rfl
@[simp] theorem endSession_ieDone (s : State) : (endSession s).ieDone = s.ieDone := rfl
@[simp] theorem endSession_ieErr (s : State) : (endSession s).ieErr = s.ieErr := rfl
@[simp] theorem endSession_evDone (s : State) : (endSession s).evDone = true := rfl
@[simp] theorem endSession_evErr (s : State) : (endSession s).evErr = s.evErr := rfl
@[simp] theorem endSession_evAccErr (s : State) : (endSession s).evAccErr = s.evAccErr := rfl
@[simp] theorem endSession_errCode (s : State) : (endSession s).errCode = s.errCode := rfl
@[simp] theorem endSession_frameLen (s : State) : (endSession s).frameLen = s.frameLen := rfl
@[simp] theorem endSession_preambleMs (s : State) : (endSession s).preambleMs = s.preambleMs := rfl
@[simp] theorem endSession_tailMs (s : State) : (endSession s).tailMs = s.tailMs := rfl
@[simp] theorem endSession_pttLeadMs (s : State) : (endSession s).pttLeadMs = s.pttLeadMs := rfl
@[simp] theorem endSession_pttTrailMs (s : State) : (endSession s).pttTrailMs = s.pttTrailMs := rfl
@[simp] theorem endSession_inbox (s : State) : (endSession s).inbox = s.inbox := rfl
@[simp] theorem endSession_response (s : State) : (endSession s).response = s.response := rfl
@[simp] theorem endSession_draws (s : State) : (endSession s).draws = s.draws := rfl

/-! ## `abortSession` -/

@[simp] theorem abortSession_seqState (s : State) : (abortSession s).seqState = .ready := rfl
@[simp] theorem abortSession_pttAsserted (s : State) : (abortSession s).pttAsserted = false := rfl
@[simp] theorem abortSession_drained (s : State) : (abortSession s).drained = false := rfl
@[simp] theorem abortSession_cancelPend (s : State) : (abortSession s).cancelPend = false := rfl
@[simp] theorem abortSession_leadCnt (s : State) : (abortSession s).leadCnt = 0 := rfl
@[simp] theorem abortSession_trailCnt (s : State) : (abortSession s).trailCnt = 0 := rfl
@[simp] theorem abortSession_latLen (s : State) : (abortSession s).latLen = s.latLen := rfl
@[simp] theorem abortSession_latPre (s : State) : (abortSession s).latPre = s.latPre := rfl
@[simp] theorem abortSession_latTail (s : State) : (abortSession s).latTail = s.latTail := rfl
@[simp] theorem abortSession_latTrail (s : State) : (abortSession s).latTrail = s.latTrail := rfl
@[simp] theorem abortSession_encState (s : State) : (abortSession s).encState = .idle := rfl
@[simp] theorem abortSession_flagsLeft (s : State) : (abortSession s).flagsLeft = s.flagsLeft := rfl
@[simp] theorem abortSession_bitPos (s : State) : (abortSession s).bitPos = s.bitPos := rfl
@[simp] theorem abortSession_byteIdx (s : State) : (abortSession s).byteIdx = s.byteIdx := rfl
@[simp] theorem abortSession_ones (s : State) : (abortSession s).ones = s.ones := rfl
@[simp] theorem abortSession_crc (s : State) : (abortSession s).crc = s.crc := rfl
@[simp] theorem abortSession_fcs (s : State) : (abortSession s).fcs = s.fcs := rfl
@[simp] theorem abortSession_tone (s : State) : (abortSession s).tone = s.tone := rfl
@[simp] theorem abortSession_phaseAcc (s : State) : (abortSession s).phaseAcc = s.phaseAcc := rfl
@[simp] theorem abortSession_phaseInc (s : State) : (abortSession s).phaseInc = s.phaseInc := rfl
@[simp] theorem abortSession_sampleIndex (s : State) : (abortSession s).sampleIndex = s.sampleIndex := rfl
@[simp] theorem abortSession_sampleCount (s : State) : (abortSession s).sampleCount = s.sampleCount := rfl
@[simp] theorem abortSession_buf (s : State) : (abortSession s).buf = s.buf := rfl
@[simp] theorem abortSession_pttPol (s : State) : (abortSession s).pttPol = s.pttPol := rfl
@[simp] theorem abortSession_nrziInit (s : State) : (abortSession s).nrziInit = s.nrziInit := rfl
@[simp] theorem abortSession_ieDone (s : State) : (abortSession s).ieDone = s.ieDone := rfl
@[simp] theorem abortSession_ieErr (s : State) : (abortSession s).ieErr = s.ieErr := rfl
@[simp] theorem abortSession_evDone (s : State) : (abortSession s).evDone = s.evDone := rfl
@[simp] theorem abortSession_evErr (s : State) : (abortSession s).evErr = true := rfl
@[simp] theorem abortSession_evAccErr (s : State) : (abortSession s).evAccErr = s.evAccErr := rfl
@[simp] theorem abortSession_errCode (s : State) : (abortSession s).errCode = .audioFault := rfl
@[simp] theorem abortSession_frameLen (s : State) : (abortSession s).frameLen = s.frameLen := rfl
@[simp] theorem abortSession_preambleMs (s : State) : (abortSession s).preambleMs = s.preambleMs := rfl
@[simp] theorem abortSession_tailMs (s : State) : (abortSession s).tailMs = s.tailMs := rfl
@[simp] theorem abortSession_pttLeadMs (s : State) : (abortSession s).pttLeadMs = s.pttLeadMs := rfl
@[simp] theorem abortSession_pttTrailMs (s : State) : (abortSession s).pttTrailMs = s.pttTrailMs := rfl
@[simp] theorem abortSession_inbox (s : State) : (abortSession s).inbox = s.inbox := rfl
@[simp] theorem abortSession_response (s : State) : (abortSession s).response = s.response := rfl
@[simp] theorem abortSession_draws (s : State) : (abortSession s).draws = s.draws := rfl

/-! ## `countLead` -/

@[simp] theorem countLead_seqState (s : State) : (countLead s).seqState = s.seqState := rfl
@[simp] theorem countLead_pttAsserted (s : State) : (countLead s).pttAsserted = s.pttAsserted := rfl
@[simp] theorem countLead_drained (s : State) : (countLead s).drained = s.drained := rfl
@[simp] theorem countLead_cancelPend (s : State) : (countLead s).cancelPend = s.cancelPend := rfl
@[simp] theorem countLead_leadCnt (s : State) : (countLead s).leadCnt = s.leadCnt - 1 := rfl
@[simp] theorem countLead_trailCnt (s : State) : (countLead s).trailCnt = s.trailCnt := rfl
@[simp] theorem countLead_latLen (s : State) : (countLead s).latLen = s.latLen := rfl
@[simp] theorem countLead_latPre (s : State) : (countLead s).latPre = s.latPre := rfl
@[simp] theorem countLead_latTail (s : State) : (countLead s).latTail = s.latTail := rfl
@[simp] theorem countLead_latTrail (s : State) : (countLead s).latTrail = s.latTrail := rfl
@[simp] theorem countLead_encState (s : State) : (countLead s).encState = s.encState := rfl
@[simp] theorem countLead_flagsLeft (s : State) : (countLead s).flagsLeft = s.flagsLeft := rfl
@[simp] theorem countLead_bitPos (s : State) : (countLead s).bitPos = s.bitPos := rfl
@[simp] theorem countLead_byteIdx (s : State) : (countLead s).byteIdx = s.byteIdx := rfl
@[simp] theorem countLead_ones (s : State) : (countLead s).ones = s.ones := rfl
@[simp] theorem countLead_crc (s : State) : (countLead s).crc = s.crc := rfl
@[simp] theorem countLead_fcs (s : State) : (countLead s).fcs = s.fcs := rfl
@[simp] theorem countLead_tone (s : State) : (countLead s).tone = s.tone := rfl
@[simp] theorem countLead_phaseAcc (s : State) : (countLead s).phaseAcc = s.phaseAcc := rfl
@[simp] theorem countLead_phaseInc (s : State) : (countLead s).phaseInc = s.phaseInc := rfl
@[simp] theorem countLead_sampleIndex (s : State) : (countLead s).sampleIndex = s.sampleIndex := rfl
@[simp] theorem countLead_sampleCount (s : State) : (countLead s).sampleCount = s.sampleCount := rfl
@[simp] theorem countLead_buf (s : State) : (countLead s).buf = s.buf := rfl
@[simp] theorem countLead_pttPol (s : State) : (countLead s).pttPol = s.pttPol := rfl
@[simp] theorem countLead_nrziInit (s : State) : (countLead s).nrziInit = s.nrziInit := rfl
@[simp] theorem countLead_ieDone (s : State) : (countLead s).ieDone = s.ieDone := rfl
@[simp] theorem countLead_ieErr (s : State) : (countLead s).ieErr = s.ieErr := rfl
@[simp] theorem countLead_evDone (s : State) : (countLead s).evDone = s.evDone := rfl
@[simp] theorem countLead_evErr (s : State) : (countLead s).evErr = s.evErr := rfl
@[simp] theorem countLead_evAccErr (s : State) : (countLead s).evAccErr = s.evAccErr := rfl
@[simp] theorem countLead_errCode (s : State) : (countLead s).errCode = s.errCode := rfl
@[simp] theorem countLead_frameLen (s : State) : (countLead s).frameLen = s.frameLen := rfl
@[simp] theorem countLead_preambleMs (s : State) : (countLead s).preambleMs = s.preambleMs := rfl
@[simp] theorem countLead_tailMs (s : State) : (countLead s).tailMs = s.tailMs := rfl
@[simp] theorem countLead_pttLeadMs (s : State) : (countLead s).pttLeadMs = s.pttLeadMs := rfl
@[simp] theorem countLead_pttTrailMs (s : State) : (countLead s).pttTrailMs = s.pttTrailMs := rfl
@[simp] theorem countLead_inbox (s : State) : (countLead s).inbox = s.inbox := rfl
@[simp] theorem countLead_response (s : State) : (countLead s).response = s.response := rfl
@[simp] theorem countLead_draws (s : State) : (countLead s).draws = s.draws := rfl

/-! ## `countTrail` -/

@[simp] theorem countTrail_seqState (s : State) : (countTrail s).seqState = s.seqState := rfl
@[simp] theorem countTrail_pttAsserted (s : State) : (countTrail s).pttAsserted = s.pttAsserted := rfl
@[simp] theorem countTrail_drained (s : State) : (countTrail s).drained = s.drained := rfl
@[simp] theorem countTrail_cancelPend (s : State) : (countTrail s).cancelPend = s.cancelPend := rfl
@[simp] theorem countTrail_leadCnt (s : State) : (countTrail s).leadCnt = s.leadCnt := rfl
@[simp] theorem countTrail_trailCnt (s : State) : (countTrail s).trailCnt = s.trailCnt - 1 := rfl
@[simp] theorem countTrail_latLen (s : State) : (countTrail s).latLen = s.latLen := rfl
@[simp] theorem countTrail_latPre (s : State) : (countTrail s).latPre = s.latPre := rfl
@[simp] theorem countTrail_latTail (s : State) : (countTrail s).latTail = s.latTail := rfl
@[simp] theorem countTrail_latTrail (s : State) : (countTrail s).latTrail = s.latTrail := rfl
@[simp] theorem countTrail_encState (s : State) : (countTrail s).encState = s.encState := rfl
@[simp] theorem countTrail_flagsLeft (s : State) : (countTrail s).flagsLeft = s.flagsLeft := rfl
@[simp] theorem countTrail_bitPos (s : State) : (countTrail s).bitPos = s.bitPos := rfl
@[simp] theorem countTrail_byteIdx (s : State) : (countTrail s).byteIdx = s.byteIdx := rfl
@[simp] theorem countTrail_ones (s : State) : (countTrail s).ones = s.ones := rfl
@[simp] theorem countTrail_crc (s : State) : (countTrail s).crc = s.crc := rfl
@[simp] theorem countTrail_fcs (s : State) : (countTrail s).fcs = s.fcs := rfl
@[simp] theorem countTrail_tone (s : State) : (countTrail s).tone = s.tone := rfl
@[simp] theorem countTrail_phaseAcc (s : State) : (countTrail s).phaseAcc = s.phaseAcc := rfl
@[simp] theorem countTrail_phaseInc (s : State) : (countTrail s).phaseInc = s.phaseInc := rfl
@[simp] theorem countTrail_sampleIndex (s : State) : (countTrail s).sampleIndex = s.sampleIndex := rfl
@[simp] theorem countTrail_sampleCount (s : State) : (countTrail s).sampleCount = s.sampleCount := rfl
@[simp] theorem countTrail_buf (s : State) : (countTrail s).buf = s.buf := rfl
@[simp] theorem countTrail_pttPol (s : State) : (countTrail s).pttPol = s.pttPol := rfl
@[simp] theorem countTrail_nrziInit (s : State) : (countTrail s).nrziInit = s.nrziInit := rfl
@[simp] theorem countTrail_ieDone (s : State) : (countTrail s).ieDone = s.ieDone := rfl
@[simp] theorem countTrail_ieErr (s : State) : (countTrail s).ieErr = s.ieErr := rfl
@[simp] theorem countTrail_evDone (s : State) : (countTrail s).evDone = s.evDone := rfl
@[simp] theorem countTrail_evErr (s : State) : (countTrail s).evErr = s.evErr := rfl
@[simp] theorem countTrail_evAccErr (s : State) : (countTrail s).evAccErr = s.evAccErr := rfl
@[simp] theorem countTrail_errCode (s : State) : (countTrail s).errCode = s.errCode := rfl
@[simp] theorem countTrail_frameLen (s : State) : (countTrail s).frameLen = s.frameLen := rfl
@[simp] theorem countTrail_preambleMs (s : State) : (countTrail s).preambleMs = s.preambleMs := rfl
@[simp] theorem countTrail_tailMs (s : State) : (countTrail s).tailMs = s.tailMs := rfl
@[simp] theorem countTrail_pttLeadMs (s : State) : (countTrail s).pttLeadMs = s.pttLeadMs := rfl
@[simp] theorem countTrail_pttTrailMs (s : State) : (countTrail s).pttTrailMs = s.pttTrailMs := rfl
@[simp] theorem countTrail_inbox (s : State) : (countTrail s).inbox = s.inbox := rfl
@[simp] theorem countTrail_response (s : State) : (countTrail s).response = s.response := rfl
@[simp] theorem countTrail_draws (s : State) : (countTrail s).draws = s.draws := rfl

/-! ## `noteDrain` -/

@[simp] theorem noteDrain_seqState (s : State) : (noteDrain s).seqState = s.seqState := rfl
@[simp] theorem noteDrain_pttAsserted (s : State) : (noteDrain s).pttAsserted = s.pttAsserted := rfl
@[simp] theorem noteDrain_drained (s : State) : (noteDrain s).drained = true := rfl
@[simp] theorem noteDrain_cancelPend (s : State) : (noteDrain s).cancelPend = s.cancelPend := rfl
@[simp] theorem noteDrain_leadCnt (s : State) : (noteDrain s).leadCnt = s.leadCnt := rfl
@[simp] theorem noteDrain_trailCnt (s : State) : (noteDrain s).trailCnt = s.latTrail := rfl
@[simp] theorem noteDrain_latLen (s : State) : (noteDrain s).latLen = s.latLen := rfl
@[simp] theorem noteDrain_latPre (s : State) : (noteDrain s).latPre = s.latPre := rfl
@[simp] theorem noteDrain_latTail (s : State) : (noteDrain s).latTail = s.latTail := rfl
@[simp] theorem noteDrain_latTrail (s : State) : (noteDrain s).latTrail = s.latTrail := rfl
@[simp] theorem noteDrain_encState (s : State) : (noteDrain s).encState = s.encState := rfl
@[simp] theorem noteDrain_flagsLeft (s : State) : (noteDrain s).flagsLeft = s.flagsLeft := rfl
@[simp] theorem noteDrain_bitPos (s : State) : (noteDrain s).bitPos = s.bitPos := rfl
@[simp] theorem noteDrain_byteIdx (s : State) : (noteDrain s).byteIdx = s.byteIdx := rfl
@[simp] theorem noteDrain_ones (s : State) : (noteDrain s).ones = s.ones := rfl
@[simp] theorem noteDrain_crc (s : State) : (noteDrain s).crc = s.crc := rfl
@[simp] theorem noteDrain_fcs (s : State) : (noteDrain s).fcs = s.fcs := rfl
@[simp] theorem noteDrain_tone (s : State) : (noteDrain s).tone = s.tone := rfl
@[simp] theorem noteDrain_phaseAcc (s : State) : (noteDrain s).phaseAcc = s.phaseAcc := rfl
@[simp] theorem noteDrain_phaseInc (s : State) : (noteDrain s).phaseInc = s.phaseInc := rfl
@[simp] theorem noteDrain_sampleIndex (s : State) : (noteDrain s).sampleIndex = s.sampleIndex := rfl
@[simp] theorem noteDrain_sampleCount (s : State) : (noteDrain s).sampleCount = s.sampleCount := rfl
@[simp] theorem noteDrain_buf (s : State) : (noteDrain s).buf = s.buf := rfl
@[simp] theorem noteDrain_pttPol (s : State) : (noteDrain s).pttPol = s.pttPol := rfl
@[simp] theorem noteDrain_nrziInit (s : State) : (noteDrain s).nrziInit = s.nrziInit := rfl
@[simp] theorem noteDrain_ieDone (s : State) : (noteDrain s).ieDone = s.ieDone := rfl
@[simp] theorem noteDrain_ieErr (s : State) : (noteDrain s).ieErr = s.ieErr := rfl
@[simp] theorem noteDrain_evDone (s : State) : (noteDrain s).evDone = s.evDone := rfl
@[simp] theorem noteDrain_evErr (s : State) : (noteDrain s).evErr = s.evErr := rfl
@[simp] theorem noteDrain_evAccErr (s : State) : (noteDrain s).evAccErr = s.evAccErr := rfl
@[simp] theorem noteDrain_errCode (s : State) : (noteDrain s).errCode = s.errCode := rfl
@[simp] theorem noteDrain_frameLen (s : State) : (noteDrain s).frameLen = s.frameLen := rfl
@[simp] theorem noteDrain_preambleMs (s : State) : (noteDrain s).preambleMs = s.preambleMs := rfl
@[simp] theorem noteDrain_tailMs (s : State) : (noteDrain s).tailMs = s.tailMs := rfl
@[simp] theorem noteDrain_pttLeadMs (s : State) : (noteDrain s).pttLeadMs = s.pttLeadMs := rfl
@[simp] theorem noteDrain_pttTrailMs (s : State) : (noteDrain s).pttTrailMs = s.pttTrailMs := rfl
@[simp] theorem noteDrain_inbox (s : State) : (noteDrain s).inbox = s.inbox := rfl
@[simp] theorem noteDrain_response (s : State) : (noteDrain s).response = s.response := rfl
@[simp] theorem noteDrain_draws (s : State) : (noteDrain s).draws = s.draws := rfl

/-! ## `enterRelease` -/

@[simp] theorem enterRelease_seqState (s : State) : (enterRelease s).seqState = .pttRelease := rfl
@[simp] theorem enterRelease_pttAsserted (s : State) : (enterRelease s).pttAsserted = s.pttAsserted := rfl
@[simp] theorem enterRelease_drained (s : State) : (enterRelease s).drained = false := rfl
@[simp] theorem enterRelease_cancelPend (s : State) : (enterRelease s).cancelPend = s.cancelPend := rfl
@[simp] theorem enterRelease_leadCnt (s : State) : (enterRelease s).leadCnt = s.leadCnt := rfl
@[simp] theorem enterRelease_trailCnt (s : State) : (enterRelease s).trailCnt = s.trailCnt := rfl
@[simp] theorem enterRelease_latLen (s : State) : (enterRelease s).latLen = s.latLen := rfl
@[simp] theorem enterRelease_latPre (s : State) : (enterRelease s).latPre = s.latPre := rfl
@[simp] theorem enterRelease_latTail (s : State) : (enterRelease s).latTail = s.latTail := rfl
@[simp] theorem enterRelease_latTrail (s : State) : (enterRelease s).latTrail = s.latTrail := rfl
@[simp] theorem enterRelease_encState (s : State) : (enterRelease s).encState = s.encState := rfl
@[simp] theorem enterRelease_flagsLeft (s : State) : (enterRelease s).flagsLeft = s.flagsLeft := rfl
@[simp] theorem enterRelease_bitPos (s : State) : (enterRelease s).bitPos = s.bitPos := rfl
@[simp] theorem enterRelease_byteIdx (s : State) : (enterRelease s).byteIdx = s.byteIdx := rfl
@[simp] theorem enterRelease_ones (s : State) : (enterRelease s).ones = s.ones := rfl
@[simp] theorem enterRelease_crc (s : State) : (enterRelease s).crc = s.crc := rfl
@[simp] theorem enterRelease_fcs (s : State) : (enterRelease s).fcs = s.fcs := rfl
@[simp] theorem enterRelease_tone (s : State) : (enterRelease s).tone = s.tone := rfl
@[simp] theorem enterRelease_phaseAcc (s : State) : (enterRelease s).phaseAcc = s.phaseAcc := rfl
@[simp] theorem enterRelease_phaseInc (s : State) : (enterRelease s).phaseInc = s.phaseInc := rfl
@[simp] theorem enterRelease_sampleIndex (s : State) : (enterRelease s).sampleIndex = s.sampleIndex := rfl
@[simp] theorem enterRelease_sampleCount (s : State) : (enterRelease s).sampleCount = s.sampleCount := rfl
@[simp] theorem enterRelease_buf (s : State) : (enterRelease s).buf = s.buf := rfl
@[simp] theorem enterRelease_pttPol (s : State) : (enterRelease s).pttPol = s.pttPol := rfl
@[simp] theorem enterRelease_nrziInit (s : State) : (enterRelease s).nrziInit = s.nrziInit := rfl
@[simp] theorem enterRelease_ieDone (s : State) : (enterRelease s).ieDone = s.ieDone := rfl
@[simp] theorem enterRelease_ieErr (s : State) : (enterRelease s).ieErr = s.ieErr := rfl
@[simp] theorem enterRelease_evDone (s : State) : (enterRelease s).evDone = s.evDone := rfl
@[simp] theorem enterRelease_evErr (s : State) : (enterRelease s).evErr = s.evErr := rfl
@[simp] theorem enterRelease_evAccErr (s : State) : (enterRelease s).evAccErr = s.evAccErr := rfl
@[simp] theorem enterRelease_errCode (s : State) : (enterRelease s).errCode = s.errCode := rfl
@[simp] theorem enterRelease_frameLen (s : State) : (enterRelease s).frameLen = s.frameLen := rfl
@[simp] theorem enterRelease_preambleMs (s : State) : (enterRelease s).preambleMs = s.preambleMs := rfl
@[simp] theorem enterRelease_tailMs (s : State) : (enterRelease s).tailMs = s.tailMs := rfl
@[simp] theorem enterRelease_pttLeadMs (s : State) : (enterRelease s).pttLeadMs = s.pttLeadMs := rfl
@[simp] theorem enterRelease_pttTrailMs (s : State) : (enterRelease s).pttTrailMs = s.pttTrailMs := rfl
@[simp] theorem enterRelease_inbox (s : State) : (enterRelease s).inbox = s.inbox := rfl
@[simp] theorem enterRelease_response (s : State) : (enterRelease s).response = s.response := rfl
@[simp] theorem enterRelease_draws (s : State) : (enterRelease s).draws = s.draws := rfl

/-! ## `modulateBit` -/

@[simp] theorem modulateBit_seqState (P : Params) (b : Bool) (s : State) : (modulateBit P b s).seqState = txStateOf s.encState s.seqState := rfl
@[simp] theorem modulateBit_pttAsserted (P : Params) (b : Bool) (s : State) : (modulateBit P b s).pttAsserted = s.pttAsserted := rfl
@[simp] theorem modulateBit_drained (P : Params) (b : Bool) (s : State) : (modulateBit P b s).drained = s.drained := rfl
@[simp] theorem modulateBit_cancelPend (P : Params) (b : Bool) (s : State) : (modulateBit P b s).cancelPend = s.cancelPend := rfl
@[simp] theorem modulateBit_leadCnt (P : Params) (b : Bool) (s : State) : (modulateBit P b s).leadCnt = s.leadCnt := rfl
@[simp] theorem modulateBit_trailCnt (P : Params) (b : Bool) (s : State) : (modulateBit P b s).trailCnt = s.trailCnt := rfl
@[simp] theorem modulateBit_latLen (P : Params) (b : Bool) (s : State) : (modulateBit P b s).latLen = s.latLen := rfl
@[simp] theorem modulateBit_latPre (P : Params) (b : Bool) (s : State) : (modulateBit P b s).latPre = s.latPre := rfl
@[simp] theorem modulateBit_latTail (P : Params) (b : Bool) (s : State) : (modulateBit P b s).latTail = s.latTail := rfl
@[simp] theorem modulateBit_latTrail (P : Params) (b : Bool) (s : State) : (modulateBit P b s).latTrail = s.latTrail := rfl
@[simp] theorem modulateBit_encState (P : Params) (b : Bool) (s : State) : (modulateBit P b s).encState = s.encState := rfl
@[simp] theorem modulateBit_flagsLeft (P : Params) (b : Bool) (s : State) : (modulateBit P b s).flagsLeft = s.flagsLeft := rfl
@[simp] theorem modulateBit_bitPos (P : Params) (b : Bool) (s : State) : (modulateBit P b s).bitPos = s.bitPos := rfl
@[simp] theorem modulateBit_byteIdx (P : Params) (b : Bool) (s : State) : (modulateBit P b s).byteIdx = s.byteIdx := rfl
@[simp] theorem modulateBit_ones (P : Params) (b : Bool) (s : State) : (modulateBit P b s).ones = s.ones := rfl
@[simp] theorem modulateBit_crc (P : Params) (b : Bool) (s : State) : (modulateBit P b s).crc = s.crc := rfl
@[simp] theorem modulateBit_fcs (P : Params) (b : Bool) (s : State) : (modulateBit P b s).fcs = s.fcs := rfl
@[simp] theorem modulateBit_tone (P : Params) (b : Bool) (s : State) : (modulateBit P b s).tone = nrzi s.tone b := rfl
@[simp] theorem modulateBit_phaseAcc (P : Params) (b : Bool) (s : State) : (modulateBit P b s).phaseAcc = s.phaseAcc := rfl
@[simp] theorem modulateBit_phaseInc (P : Params) (b : Bool) (s : State) : (modulateBit P b s).phaseInc = toneIncrement P (nrzi s.tone b) := rfl
@[simp] theorem modulateBit_sampleIndex (P : Params) (b : Bool) (s : State) : (modulateBit P b s).sampleIndex = s.sampleIndex := rfl
@[simp] theorem modulateBit_sampleCount (P : Params) (b : Bool) (s : State) : (modulateBit P b s).sampleCount = s.sampleCount := rfl
@[simp] theorem modulateBit_buf (P : Params) (b : Bool) (s : State) : (modulateBit P b s).buf = s.buf := rfl
@[simp] theorem modulateBit_pttPol (P : Params) (b : Bool) (s : State) : (modulateBit P b s).pttPol = s.pttPol := rfl
@[simp] theorem modulateBit_nrziInit (P : Params) (b : Bool) (s : State) : (modulateBit P b s).nrziInit = s.nrziInit := rfl
@[simp] theorem modulateBit_ieDone (P : Params) (b : Bool) (s : State) : (modulateBit P b s).ieDone = s.ieDone := rfl
@[simp] theorem modulateBit_ieErr (P : Params) (b : Bool) (s : State) : (modulateBit P b s).ieErr = s.ieErr := rfl
@[simp] theorem modulateBit_evDone (P : Params) (b : Bool) (s : State) : (modulateBit P b s).evDone = s.evDone := rfl
@[simp] theorem modulateBit_evErr (P : Params) (b : Bool) (s : State) : (modulateBit P b s).evErr = s.evErr := rfl
@[simp] theorem modulateBit_evAccErr (P : Params) (b : Bool) (s : State) : (modulateBit P b s).evAccErr = s.evAccErr := rfl
@[simp] theorem modulateBit_errCode (P : Params) (b : Bool) (s : State) : (modulateBit P b s).errCode = s.errCode := rfl
@[simp] theorem modulateBit_frameLen (P : Params) (b : Bool) (s : State) : (modulateBit P b s).frameLen = s.frameLen := rfl
@[simp] theorem modulateBit_preambleMs (P : Params) (b : Bool) (s : State) : (modulateBit P b s).preambleMs = s.preambleMs := rfl
@[simp] theorem modulateBit_tailMs (P : Params) (b : Bool) (s : State) : (modulateBit P b s).tailMs = s.tailMs := rfl
@[simp] theorem modulateBit_pttLeadMs (P : Params) (b : Bool) (s : State) : (modulateBit P b s).pttLeadMs = s.pttLeadMs := rfl
@[simp] theorem modulateBit_pttTrailMs (P : Params) (b : Bool) (s : State) : (modulateBit P b s).pttTrailMs = s.pttTrailMs := rfl
@[simp] theorem modulateBit_inbox (P : Params) (b : Bool) (s : State) : (modulateBit P b s).inbox = s.inbox := rfl
@[simp] theorem modulateBit_response (P : Params) (b : Bool) (s : State) : (modulateBit P b s).response = s.response := rfl
@[simp] theorem modulateBit_draws (P : Params) (b : Bool) (s : State) : (modulateBit P b s).draws = s.draws := rfl

/-! ## `countOnes` -/

@[simp] theorem countOnes_seqState (b : Bool) (s : State) : (countOnes b s).seqState = s.seqState := rfl
@[simp] theorem countOnes_pttAsserted (b : Bool) (s : State) : (countOnes b s).pttAsserted = s.pttAsserted := rfl
@[simp] theorem countOnes_drained (b : Bool) (s : State) : (countOnes b s).drained = s.drained := rfl
@[simp] theorem countOnes_cancelPend (b : Bool) (s : State) : (countOnes b s).cancelPend = s.cancelPend := rfl
@[simp] theorem countOnes_leadCnt (b : Bool) (s : State) : (countOnes b s).leadCnt = s.leadCnt := rfl
@[simp] theorem countOnes_trailCnt (b : Bool) (s : State) : (countOnes b s).trailCnt = s.trailCnt := rfl
@[simp] theorem countOnes_latLen (b : Bool) (s : State) : (countOnes b s).latLen = s.latLen := rfl
@[simp] theorem countOnes_latPre (b : Bool) (s : State) : (countOnes b s).latPre = s.latPre := rfl
@[simp] theorem countOnes_latTail (b : Bool) (s : State) : (countOnes b s).latTail = s.latTail := rfl
@[simp] theorem countOnes_latTrail (b : Bool) (s : State) : (countOnes b s).latTrail = s.latTrail := rfl
@[simp] theorem countOnes_encState (b : Bool) (s : State) : (countOnes b s).encState = s.encState := rfl
@[simp] theorem countOnes_flagsLeft (b : Bool) (s : State) : (countOnes b s).flagsLeft = s.flagsLeft := rfl
@[simp] theorem countOnes_bitPos (b : Bool) (s : State) : (countOnes b s).bitPos = s.bitPos := rfl
@[simp] theorem countOnes_byteIdx (b : Bool) (s : State) : (countOnes b s).byteIdx = s.byteIdx := rfl
@[simp] theorem countOnes_ones (b : Bool) (s : State) : (countOnes b s).ones = if b then s.ones + 1 else 0 := rfl
@[simp] theorem countOnes_crc (b : Bool) (s : State) : (countOnes b s).crc = s.crc := rfl
@[simp] theorem countOnes_fcs (b : Bool) (s : State) : (countOnes b s).fcs = s.fcs := rfl
@[simp] theorem countOnes_tone (b : Bool) (s : State) : (countOnes b s).tone = s.tone := rfl
@[simp] theorem countOnes_phaseAcc (b : Bool) (s : State) : (countOnes b s).phaseAcc = s.phaseAcc := rfl
@[simp] theorem countOnes_phaseInc (b : Bool) (s : State) : (countOnes b s).phaseInc = s.phaseInc := rfl
@[simp] theorem countOnes_sampleIndex (b : Bool) (s : State) : (countOnes b s).sampleIndex = s.sampleIndex := rfl
@[simp] theorem countOnes_sampleCount (b : Bool) (s : State) : (countOnes b s).sampleCount = s.sampleCount := rfl
@[simp] theorem countOnes_buf (b : Bool) (s : State) : (countOnes b s).buf = s.buf := rfl
@[simp] theorem countOnes_pttPol (b : Bool) (s : State) : (countOnes b s).pttPol = s.pttPol := rfl
@[simp] theorem countOnes_nrziInit (b : Bool) (s : State) : (countOnes b s).nrziInit = s.nrziInit := rfl
@[simp] theorem countOnes_ieDone (b : Bool) (s : State) : (countOnes b s).ieDone = s.ieDone := rfl
@[simp] theorem countOnes_ieErr (b : Bool) (s : State) : (countOnes b s).ieErr = s.ieErr := rfl
@[simp] theorem countOnes_evDone (b : Bool) (s : State) : (countOnes b s).evDone = s.evDone := rfl
@[simp] theorem countOnes_evErr (b : Bool) (s : State) : (countOnes b s).evErr = s.evErr := rfl
@[simp] theorem countOnes_evAccErr (b : Bool) (s : State) : (countOnes b s).evAccErr = s.evAccErr := rfl
@[simp] theorem countOnes_errCode (b : Bool) (s : State) : (countOnes b s).errCode = s.errCode := rfl
@[simp] theorem countOnes_frameLen (b : Bool) (s : State) : (countOnes b s).frameLen = s.frameLen := rfl
@[simp] theorem countOnes_preambleMs (b : Bool) (s : State) : (countOnes b s).preambleMs = s.preambleMs := rfl
@[simp] theorem countOnes_tailMs (b : Bool) (s : State) : (countOnes b s).tailMs = s.tailMs := rfl
@[simp] theorem countOnes_pttLeadMs (b : Bool) (s : State) : (countOnes b s).pttLeadMs = s.pttLeadMs := rfl
@[simp] theorem countOnes_pttTrailMs (b : Bool) (s : State) : (countOnes b s).pttTrailMs = s.pttTrailMs := rfl
@[simp] theorem countOnes_inbox (b : Bool) (s : State) : (countOnes b s).inbox = s.inbox := rfl
@[simp] theorem countOnes_response (b : Bool) (s : State) : (countOnes b s).response = s.response := rfl
@[simp] theorem countOnes_draws (b : Bool) (s : State) : (countOnes b s).draws = s.draws := rfl

/-! ## `State.resetFor` -/

@[simp] theorem resetFor_seqState (P : Params) : (State.resetFor P).seqState = .ready := rfl
@[simp] theorem resetFor_pttAsserted (P : Params) : (State.resetFor P).pttAsserted = false := rfl
@[simp] theorem resetFor_drained (P : Params) : (State.resetFor P).drained = false := rfl
@[simp] theorem resetFor_cancelPend (P : Params) : (State.resetFor P).cancelPend = false := rfl
@[simp] theorem resetFor_leadCnt (P : Params) : (State.resetFor P).leadCnt = 0 := rfl
@[simp] theorem resetFor_trailCnt (P : Params) : (State.resetFor P).trailCnt = 0 := rfl
@[simp] theorem resetFor_latLen (P : Params) : (State.resetFor P).latLen = 0 := rfl
@[simp] theorem resetFor_latPre (P : Params) : (State.resetFor P).latPre = 0 := rfl
@[simp] theorem resetFor_latTail (P : Params) : (State.resetFor P).latTail = 0 := rfl
@[simp] theorem resetFor_latTrail (P : Params) : (State.resetFor P).latTrail = 0 := rfl
@[simp] theorem resetFor_encState (P : Params) : (State.resetFor P).encState = .idle := rfl
@[simp] theorem resetFor_flagsLeft (P : Params) : (State.resetFor P).flagsLeft = 0 := rfl
@[simp] theorem resetFor_bitPos (P : Params) : (State.resetFor P).bitPos = 0 := rfl
@[simp] theorem resetFor_byteIdx (P : Params) : (State.resetFor P).byteIdx = 0 := rfl
@[simp] theorem resetFor_ones (P : Params) : (State.resetFor P).ones = 0 := rfl
@[simp] theorem resetFor_crc (P : Params) : (State.resetFor P).crc = 0xFFFF := rfl
@[simp] theorem resetFor_fcs (P : Params) : (State.resetFor P).fcs = 0x0000 := rfl
@[simp] theorem resetFor_tone (P : Params) : (State.resetFor P).tone = .mark := rfl
@[simp] theorem resetFor_phaseAcc (P : Params) : (State.resetFor P).phaseAcc = 0 := rfl
@[simp] theorem resetFor_phaseInc (P : Params) : (State.resetFor P).phaseInc = P.dmark := rfl
@[simp] theorem resetFor_sampleIndex (P : Params) : (State.resetFor P).sampleIndex = 0 := rfl
@[simp] theorem resetFor_sampleCount (P : Params) : (State.resetFor P).sampleCount = 0 := rfl
@[simp] theorem resetFor_buf (P : Params) : (State.resetFor P).buf = [] := rfl
@[simp] theorem resetFor_pttPol (P : Params) : (State.resetFor P).pttPol = true := rfl
@[simp] theorem resetFor_nrziInit (P : Params) : (State.resetFor P).nrziInit = false := rfl
@[simp] theorem resetFor_ieDone (P : Params) : (State.resetFor P).ieDone = false := rfl
@[simp] theorem resetFor_ieErr (P : Params) : (State.resetFor P).ieErr = false := rfl
@[simp] theorem resetFor_evDone (P : Params) : (State.resetFor P).evDone = false := rfl
@[simp] theorem resetFor_evErr (P : Params) : (State.resetFor P).evErr = false := rfl
@[simp] theorem resetFor_evAccErr (P : Params) : (State.resetFor P).evAccErr = false := rfl
@[simp] theorem resetFor_errCode (P : Params) : (State.resetFor P).errCode = .none := rfl
@[simp] theorem resetFor_frameLen (P : Params) : (State.resetFor P).frameLen = 0 := rfl
@[simp] theorem resetFor_preambleMs (P : Params) : (State.resetFor P).preambleMs = 350 := rfl
@[simp] theorem resetFor_tailMs (P : Params) : (State.resetFor P).tailMs = 50 := rfl
@[simp] theorem resetFor_pttLeadMs (P : Params) : (State.resetFor P).pttLeadMs = 50 := rfl
@[simp] theorem resetFor_pttTrailMs (P : Params) : (State.resetFor P).pttTrailMs = 20 := rfl
@[simp] theorem resetFor_inbox (P : Params) : (State.resetFor P).inbox = [] := rfl
@[simp] theorem resetFor_response (P : Params) : (State.resetFor P).response = .none := rfl
@[simp] theorem resetFor_draws (P : Params) : (State.resetFor P).draws = 0 := rfl

/-! ## `resetBlock` -/

@[simp] theorem resetBlock_seqState (P : Params) (s : State) : (resetBlock P s).seqState = .ready := rfl
@[simp] theorem resetBlock_pttAsserted (P : Params) (s : State) : (resetBlock P s).pttAsserted = false := rfl
@[simp] theorem resetBlock_drained (P : Params) (s : State) : (resetBlock P s).drained = false := rfl
@[simp] theorem resetBlock_cancelPend (P : Params) (s : State) : (resetBlock P s).cancelPend = false := rfl
@[simp] theorem resetBlock_leadCnt (P : Params) (s : State) : (resetBlock P s).leadCnt = 0 := rfl
@[simp] theorem resetBlock_trailCnt (P : Params) (s : State) : (resetBlock P s).trailCnt = 0 := rfl
@[simp] theorem resetBlock_latLen (P : Params) (s : State) : (resetBlock P s).latLen = 0 := rfl
@[simp] theorem resetBlock_latPre (P : Params) (s : State) : (resetBlock P s).latPre = 0 := rfl
@[simp] theorem resetBlock_latTail (P : Params) (s : State) : (resetBlock P s).latTail = 0 := rfl
@[simp] theorem resetBlock_latTrail (P : Params) (s : State) : (resetBlock P s).latTrail = 0 := rfl
@[simp] theorem resetBlock_encState (P : Params) (s : State) : (resetBlock P s).encState = .idle := rfl
@[simp] theorem resetBlock_flagsLeft (P : Params) (s : State) : (resetBlock P s).flagsLeft = 0 := rfl
@[simp] theorem resetBlock_bitPos (P : Params) (s : State) : (resetBlock P s).bitPos = 0 := rfl
@[simp] theorem resetBlock_byteIdx (P : Params) (s : State) : (resetBlock P s).byteIdx = 0 := rfl
@[simp] theorem resetBlock_ones (P : Params) (s : State) : (resetBlock P s).ones = 0 := rfl
@[simp] theorem resetBlock_crc (P : Params) (s : State) : (resetBlock P s).crc = 0xFFFF := rfl
@[simp] theorem resetBlock_fcs (P : Params) (s : State) : (resetBlock P s).fcs = 0x0000 := rfl
@[simp] theorem resetBlock_tone (P : Params) (s : State) : (resetBlock P s).tone = .mark := rfl
@[simp] theorem resetBlock_phaseAcc (P : Params) (s : State) : (resetBlock P s).phaseAcc = 0 := rfl
@[simp] theorem resetBlock_phaseInc (P : Params) (s : State) : (resetBlock P s).phaseInc = P.dmark := rfl
@[simp] theorem resetBlock_sampleIndex (P : Params) (s : State) : (resetBlock P s).sampleIndex = 0 := rfl
@[simp] theorem resetBlock_sampleCount (P : Params) (s : State) : (resetBlock P s).sampleCount = 0 := rfl
@[simp] theorem resetBlock_buf (P : Params) (s : State) : (resetBlock P s).buf = [] := rfl
@[simp] theorem resetBlock_pttPol (P : Params) (s : State) : (resetBlock P s).pttPol = true := rfl
@[simp] theorem resetBlock_nrziInit (P : Params) (s : State) : (resetBlock P s).nrziInit = false := rfl
@[simp] theorem resetBlock_ieDone (P : Params) (s : State) : (resetBlock P s).ieDone = false := rfl
@[simp] theorem resetBlock_ieErr (P : Params) (s : State) : (resetBlock P s).ieErr = false := rfl
@[simp] theorem resetBlock_evDone (P : Params) (s : State) : (resetBlock P s).evDone = false := rfl
@[simp] theorem resetBlock_evErr (P : Params) (s : State) : (resetBlock P s).evErr = false := rfl
@[simp] theorem resetBlock_evAccErr (P : Params) (s : State) : (resetBlock P s).evAccErr = false := rfl
@[simp] theorem resetBlock_errCode (P : Params) (s : State) : (resetBlock P s).errCode = .none := rfl
@[simp] theorem resetBlock_frameLen (P : Params) (s : State) : (resetBlock P s).frameLen = 0 := rfl
@[simp] theorem resetBlock_preambleMs (P : Params) (s : State) : (resetBlock P s).preambleMs = 350 := rfl
@[simp] theorem resetBlock_tailMs (P : Params) (s : State) : (resetBlock P s).tailMs = 50 := rfl
@[simp] theorem resetBlock_pttLeadMs (P : Params) (s : State) : (resetBlock P s).pttLeadMs = 50 := rfl
@[simp] theorem resetBlock_pttTrailMs (P : Params) (s : State) : (resetBlock P s).pttTrailMs = 20 := rfl
@[simp] theorem resetBlock_inbox (P : Params) (s : State) : (resetBlock P s).inbox = s.inbox := rfl
@[simp] theorem resetBlock_response (P : Params) (s : State) : (resetBlock P s).response = .none := rfl
@[simp] theorem resetBlock_draws (P : Params) (s : State) : (resetBlock P s).draws = s.draws + 1 := rfl

end Sys2Proof.Machine
end

