-- ==== Sys2Proof/Laws/Framer.lean ====
section
/-! SUPPORT. What `next_bit()` can do, said once: its phase tests, its steps, the fields it leaves alone. -/

namespace Sys2Proof.Machine

/-! ## The phase tests -/

theorem enterFrame_cases (s : State) :
    (s.encState = .preamble ∧ s.flagsLeft = 0 ∧
      enterFrame s = { s with encState := .frame, byteIdx := 0, bitPos := 0, ones := 0 }) ∨
    (¬ (s.encState = .preamble ∧ s.flagsLeft = 0) ∧ enterFrame s = s) := by
  unfold enterFrame
  split
  · next h => exact .inl ⟨h.1, h.2, rfl⟩
  · next h => exact .inr ⟨h, rfl⟩

theorem enterTail_cases (s : State) :
    (s.encState = .frame ∧ s.ones ≠ 5 ∧ s.byteIdx.toNat = s.latLen.toNat + 2 ∧
      enterTail s = { s with encState := .tail, flagsLeft := s.latTail, bitPos := 0 }) ∨
    (¬ (s.encState = .frame ∧ s.ones ≠ 5 ∧ s.byteIdx.toNat = s.latLen.toNat + 2) ∧ enterTail s = s) := by
  unfold enterTail
  split
  · next h => exact .inl ⟨h.1, h.2.1, h.2.2, rfl⟩
  · next h => exact .inr ⟨h, rfl⟩

theorem enterDone_cases (s : State) :
    (s.encState = .tail ∧ s.flagsLeft = 0 ∧ enterDone s = { s with encState := .done }) ∨
    (¬ (s.encState = .tail ∧ s.flagsLeft = 0) ∧ enterDone s = s) := by
  unfold enterDone
  split
  · next h => exact .inl ⟨h.1, h.2, rfl⟩
  · next h => exact .inr ⟨h, rfl⟩

/-! ## Frames -/

/-- A state that differs from `s` in the framer's own fields only: position, CRC and FCS. -/
def FramerOnly (s t : State) : Prop :=
  t = { s with
    encState := t.encState, flagsLeft := t.flagsLeft, bitPos := t.bitPos, byteIdx := t.byteIdx,
    ones := t.ones, crc := t.crc, fcs := t.fcs }

theorem FramerOnly.refl (s : State) : FramerOnly s s := rfl

theorem FramerOnly.trans {s t u : State} (h : FramerOnly s t) (k : FramerOnly t u) : FramerOnly s u := by
  unfold FramerOnly at *
  rw [h] at k
  exact k

theorem enterFrame_framerOnly (s : State) : FramerOnly s (enterFrame s) := by
  unfold enterFrame; split <;> rfl

theorem enterTail_framerOnly (s : State) : FramerOnly s (enterTail s) := by
  unfold enterTail; split <;> rfl

theorem enterDone_framerOnly (s : State) : FramerOnly s (enterDone s) := by
  unfold enterDone; split <;> rfl

theorem framerPhase_framerOnly (s : State) : FramerOnly s (framerPhase s) :=
  ((enterFrame_framerOnly s).trans (enterTail_framerOnly _)).trans (enterDone_framerOnly _)

theorem flagBitStep_framerOnly (s : State) : FramerOnly s (flagBitStep s).2 := by
  unfold flagBitStep; dsimp only; split <;> rfl

theorem stuffedBitStep_framerOnly (s : State) : FramerOnly s (stuffedBitStep s).2 := rfl

theorem feedCrc_framerOnly (b : Bool) (s : State) : FramerOnly s (feedCrc b s) := by
  unfold feedCrc; split <;> rfl

theorem advanceBit_framerOnly (s : State) : FramerOnly s (advanceBit s) := by
  unfold advanceBit; split
  · split <;> rfl
  · rfl

theorem countOnes_framerOnly (b : Bool) (s : State) : FramerOnly s (countOnes b s) := rfl

theorem frameBitStep_framerOnly (s : State) : FramerOnly s (frameBitStep s).2 :=
  ((feedCrc_framerOnly _ s).trans (advanceBit_framerOnly _)).trans (countOnes_framerOnly _ _)

theorem framerEmit_framerOnly (s : State) : FramerOnly s (framerEmit s).2 := by
  unfold framerEmit
  split
  · rfl
  · exact flagBitStep_framerOnly s
  · split
    · rfl
    · exact frameBitStep_framerOnly s
  · exact flagBitStep_framerOnly s
  · rfl

/-- `next_bit()` changes the framer's own fields only (41_hdlc_framer R236, "Status written"). -/
theorem nextBit_framerOnly (s : State) : FramerOnly s (nextBit s).2 :=
  (framerPhase_framerOnly s).trans (framerEmit_framerOnly _)

/-! ## Cases -/

/-- What `next_bit()` does, by the phase the tests leave. -/
theorem nextBit_cases (s : State) :
    ((framerPhase s).encState = .idle ∧ nextBit s = (.endOfSession, framerPhase s)) ∨
    ((framerPhase s).encState = .preamble ∧ nextBit s = flagBitStep (framerPhase s)) ∨
    ((framerPhase s).encState = .frame ∧ (framerPhase s).ones = 5 ∧ nextBit s = stuffedBitStep (framerPhase s)) ∨
    ((framerPhase s).encState = .frame ∧ (framerPhase s).ones ≠ 5 ∧ nextBit s = frameBitStep (framerPhase s)) ∨
    ((framerPhase s).encState = .tail ∧ nextBit s = flagBitStep (framerPhase s)) ∨
    ((framerPhase s).encState = .done ∧ nextBit s = (.endOfSession, framerPhase s)) := by
  unfold nextBit framerEmit
  split
  · next h => exact .inl ⟨h, rfl⟩
  · next h => exact .inr (.inl ⟨h, rfl⟩)
  · next h =>
    split
    · next k => exact .inr (.inr (.inl ⟨h, k, rfl⟩))
    · next k => exact .inr (.inr (.inr (.inl ⟨h, k, rfl⟩)))
  · next h => exact .inr (.inr (.inr (.inr (.inl ⟨h, rfl⟩))))
  · next h => exact .inr (.inr (.inr (.inr (.inr ⟨h, rfl⟩))))

/-! ## Steps keep the phase -/

@[simp] theorem flagBitStep_encState (s : State) : (flagBitStep s).2.encState = s.encState := by
  unfold flagBitStep; dsimp only; split <;> rfl

@[simp] theorem stuffedBitStep_encState (s : State) : (stuffedBitStep s).2.encState = s.encState := rfl

@[simp] theorem feedCrc_encState (b : Bool) (s : State) : (feedCrc b s).encState = s.encState := by
  unfold feedCrc; split <;> rfl

@[simp] theorem advanceBit_encState (s : State) : (advanceBit s).encState = s.encState := by
  unfold advanceBit; split
  · split <;> rfl
  · rfl

@[simp] theorem frameBitStep_encState (s : State) : (frameBitStep s).2.encState = s.encState := by
  simp [frameBitStep]

/-- The phase after `next_bit()` is the one its tests leave. -/
theorem nextBit_encState (s : State) : (nextBit s).2.encState = (framerPhase s).encState := by
  rcases nextBit_cases s with ⟨_, h⟩ | ⟨_, h⟩ | ⟨_, _, h⟩ | ⟨_, _, h⟩ | ⟨_, h⟩ | ⟨_, h⟩ <;> rw [h] <;> simp

/-- END is returned in IDLE and DONE, and only there (41_hdlc_framer R242). -/
theorem nextBit_end_iff (s : State) :
    (nextBit s).1 = .endOfSession ↔ (nextBit s).2.encState = .idle ∨ (nextBit s).2.encState = .done := by
  rw [nextBit_encState]
  rcases nextBit_cases s with ⟨e, h⟩ | ⟨e, h⟩ | ⟨e, _, h⟩ | ⟨e, _, h⟩ | ⟨e, h⟩ | ⟨e, h⟩ <;>
    simp [h, e, flagBitStep, stuffedBitStep, frameBitStep]

end Sys2Proof.Machine
end

