-- ==== Sys2Proof/Laws/Memory.lean ====
section
/-! SUPPORT. The frame buffer as a list: read after write, and that a store keeps the canonical form. -/

namespace Sys2Proof.Machine

@[simp] theorem find?_nil (a : Nat) : Memory.find? [] a = none := rfl

theorem find?_cons (c : Host.Cell) (m : Memory) (a : Nat) :
    Memory.find? (c :: m) a = if c.1 = a then some c.2 else Memory.find? m a := rfl

/-- An index below every listed one is not listed. -/
theorem find?_eq_none_of_lt (m : Memory) (a : Nat) (h : ∀ c ∈ m, a < c.1) : Memory.find? m a = none := by
  induction m with
  | nil => rfl
  | cons c m ih =>
    have hc := h c (by simp)
    rw [find?_cons, if_neg (by omega), ih fun d hd => h d (by simp [hd])]

/-- Reading after a write gives the byte written there and, elsewhere, what was there before. -/
theorem find?_store (m : Memory) (a k : Nat) (b : Byte) :
    Memory.find? (Memory.store m a b) k = if a = k then some b else Memory.find? m k := by
  induction m with
  | nil => simp [Memory.store, find?_cons]
  | cons c m ih =>
    simp only [Memory.store]
    split
    · simp [find?_cons]
    · split
      · simp only [find?_cons]; split <;> simp_all
      · simp only [find?_cons, ih]
        split <;> split <;> simp_all

@[simp] theorem find?_store_same (m : Memory) (a : Nat) (b : Byte) :
    Memory.find? (Memory.store m a b) a = some b := by simp [find?_store]

theorem find?_store_other (m : Memory) (a k : Nat) (b : Byte) (h : k ≠ a) :
    Memory.find? (Memory.store m a b) k = Memory.find? m k := by simp [find?_store, Ne.symm h]

/-- The indexes listed after a store. -/
theorem mem_store {m : Memory} {a : Nat} {b : Byte} {c : Host.Cell} (h : c ∈ Memory.store m a b) :
    c = (a, b) ∨ c ∈ m := by
  induction m with
  | nil => simpa [Memory.store] using h
  | cons d m ih =>
    simp only [Memory.store] at h
    split at h
    · simpa using h
    · split at h
      · simp only [List.mem_cons] at h ⊢; tauto
      · simp only [List.mem_cons] at h ⊢
        rcases h with h | h
        · tauto
        · rcases ih h with h | h <;> tauto

/-- A store keeps the indexes strictly rising. -/
theorem store_pairwise {m : Memory} (a : Nat) (b : Byte) (h : m.Pairwise fun c d => c.1 < d.1) :
    (Memory.store m a b).Pairwise fun c d => c.1 < d.1 := by
  induction m with
  | nil => simp [Memory.store]
  | cons c m ih =>
    obtain ⟨hc, hm⟩ := List.pairwise_cons.1 h
    simp only [Memory.store]
    split
    · refine List.pairwise_cons.2 ⟨fun d hd => ?_, h⟩
      rcases List.mem_cons.1 hd with rfl | hd
      · assumption
      · exact lt_trans (by assumption) (hc d hd)
    · split
      · subst_vars
        exact List.pairwise_cons.2 ⟨fun d hd => by have := hc d hd; omega, hm⟩
      · refine List.pairwise_cons.2 ⟨fun d hd => ?_, ih hm⟩
        rcases mem_store hd with rfl | hd
        · show c.1 < a; omega
        · exact hc d hd

/-- A store at an index that exists keeps the canonical form. -/
theorem store_wf {P : Params} {m : Memory} {a : Nat} (b : Byte) (h : Memory.wf P m) (ha : a < P.bodyMax) :
    Memory.wf P (Memory.store m a b) :=
  ⟨store_pairwise a b h.1, fun c hc => by
    rcases mem_store hc with rfl | hc
    · exact ha
    · exact h.2 c hc⟩

/-- The contents after reset are in canonical form. -/
theorem reset_buf_wf (P : Params) : Memory.wf P State.reset.buf := ⟨List.Pairwise.nil, fun _ h => nomatch h⟩

/-- `BUF[k]` after `BUF[i] <- b`. -/
theorem bufByte_storeBuf (s : State) (i k : Nat) (b : Byte) :
    (s.storeBuf i b).bufByte k = if i = k then b else s.bufByte k := by
  simp only [State.bufByte, State.storeBuf, find?_store]
  split <;> rfl

@[simp] theorem bufByte_storeBuf_same (s : State) (i : Nat) (b : Byte) : (s.storeBuf i b).bufByte i = b := by
  simp [bufByte_storeBuf]

theorem bufByte_storeBuf_other (s : State) (i k : Nat) (b : Byte) (h : k ≠ i) :
    (s.storeBuf i b).bufByte k = s.bufByte k := by simp [bufByte_storeBuf, Ne.symm h]

/-- A byte of the buffer depends on the listed entries and on the draw alone. -/
theorem bufByte_congr {s t : State} (hb : t.buf = s.buf) (hd : t.draws = s.draws) (i : Nat) :
    t.bufByte i = s.bufByte i := by simp [State.bufByte, hb, hd]

end Sys2Proof.Machine
end

