-- ==== Sys2Proof/Laws/Modulator.lean ====
section
/-! SUPPORT. What `load_bit()` and a sample strobe can do, and what they leave alone. -/

namespace Sys2Proof.Machine

/-- `load_bit()` at the end of the stream, and on a bit (43_afsk R284). -/
theorem loadBit_cases (P : Params) (s : State) :
    ((nextBit s).1 = .endOfSession ∧ loadBit P s = enterRelease { (nextBit s).2 with sampleIndex := 0 }) ∨
    (∃ b, (nextBit s).1 = .bit b ∧ loadBit P s = modulateBit P b { (nextBit s).2 with sampleIndex := 0 }) := by
  unfold loadBit
  dsimp only
  split
  · next h => exact .inl ⟨h, rfl⟩
  · next b h => exact .inr ⟨b, h, rfl⟩

/-- A state that differs from `s` only in the fields `load_bit()` may write: the framer's own, the sample index, the tone,
its increment, the sequencer state and `drained`. -/
def LoadOnly (s t : State) : Prop :=
  t = { s with
    encState := t.encState, flagsLeft := t.flagsLeft, bitPos := t.bitPos, byteIdx := t.byteIdx,
    ones := t.ones, crc := t.crc, fcs := t.fcs, sampleIndex := t.sampleIndex, tone := t.tone,
    phaseInc := t.phaseInc, seqState := t.seqState, drained := t.drained }

/-- `load_bit()` changes nothing else (43_afsk R284). -/
theorem loadBit_loadOnly (P : Params) (s : State) : LoadOnly s (loadBit P s) := by
  have h := nextBit_framerOnly s
  unfold FramerOnly at h
  unfold LoadOnly
  rcases loadBit_cases P s with ⟨_, k⟩ | ⟨b, _, k⟩ <;> rw [k, h] <;> rfl

/-- A strobe: nothing outside the TX states, a sample inside, and `load_bit()` after the last sample of a bit (43_afsk R290). -/
theorem sampleStrobe_cases (P : Params) (s : State) :
    (s.transmitting = false ∧ sampleStrobe P s = respond .none s) ∨
    (s.transmitting = true ∧ (oneSample P s).2.sampleIndex.toNat ≠ P.spb ∧
      sampleStrobe P s = respond (.sample (oneSample P s).1) (oneSample P s).2) ∨
    (s.transmitting = true ∧ (oneSample P s).2.sampleIndex.toNat = P.spb ∧
      sampleStrobe P s = loadBit P (respond (.sample (oneSample P s).1) (oneSample P s).2)) := by
  unfold sampleStrobe atBitBoundary
  split
  · next h =>
    split
    · next k => exact .inr (.inr ⟨h, by simpa using k, rfl⟩)
    · next k => exact .inr (.inl ⟨h, by simpa using k, rfl⟩)
  · next h => exact .inl ⟨by simpa using h, rfl⟩

/-- A tone change is made by a 0 and by nothing else (42_nrzi R270). -/
theorem nrzi_eq_iff (t : Tone) (b : Bool) : nrzi t b = t ↔ b = true := by cases t <;> cases b <;> decide

@[simp] theorem nrzi_true (t : Tone) : nrzi t true = t := by cases t <;> rfl

@[simp] theorem nrzi_false_twice (t : Tone) : nrzi (nrzi t false) false = t := by cases t <;> rfl

end Sys2Proof.Machine
end

