-- ==== Sys2Proof/Laws/Parametric.lean ====
section
/-! SUPPORT. The machine of given parameters is, at the spec's own values, the machine. -/

namespace Sys2Proof.Machine

/-- 00_scope R11: the spec's own parameters describe a block. -/
theorem block_wf : Config.block.wf :=
  ⟨by decide, by decide, (by decide +kernel : Config.lutTable.length = 256), by decide, by decide, Nat.mul_mod_right _ _⟩

@[simp] theorem execFor_block (i : Instr) (s : State) : execFor Config.block i s = exec i s := by cases i <;> rfl

@[simp] theorem stepFor_block (s : State) : stepFor Config.block s = step s := by
  cases h : s.inbox with
  | nil => simp [stepFor, step, h]
  | cons o r => cases d : decode Config.block o <;> simp [stepFor, step, h, d]

theorem resetFor_block : State.resetFor Config.block = State.reset := rfl

/-- The block built with the spec's own values is the core the host runs. -/
theorem coreFor_block : coreFor? Config.block = some Sys2Proof.core := by
  rw [coreFor?, if_pos block_wf, show stepFor Config.block = step from funext stepFor_block]
  rfl

/-- If a step of the block built with `P` answers a next state, there was no arrival and nothing changed, or the oldest arrival
was decoded and performed with the rest left waiting. -/
theorem stepFor_next {P : Params} {s t : State} (h : stepFor P s = .next t) :
    (s.inbox = [] ∧ t = s) ∨
    (∃ o rest i, s.inbox = o :: rest ∧ decode P o = .ok i ∧ execFor P i { s with inbox := rest } = .next t) := by
  unfold stepFor at h
  split at h
  · next e => exact .inl ⟨e, by cases h; rfl⟩
  · next o rest e =>
    split at h
    · next i d => exact .inr ⟨o, rest, i, e, d, h⟩
    · cases h

end Sys2Proof.Machine
end

