-- ==== Sys2Proof/Laws/PerInstr.lean ====
section
/-! SUPPORT. Facts about instructions as syntax, one lemma for each constructor of Instr. -/

namespace Sys2Proof.Laws.OperandPresence

/-- The encoding of a well-formed legal operation brings a WDATA exactly when its class is WRITE (30_encoding R140, R141). -/
def Statement (i : Instr) : Prop :=
  (∀ op, i ≠ .invalid op) → (encode i).wdata.isSome = (opClass (encode i).op == 0b01)

/-- A READ word takes no operand. -/
theorem readOperand (off : Offset) : false = (opClass (readWord off) == 0b01) := by
  rw [opClass_readWord]; rfl

/-- A WRITE word takes one. -/
theorem writeOperand (off : Offset) : true = (opClass (writeWord off) == 0b01) := by
  rw [opClass_writeWord]; rfl

theorem rdCtrl : Statement (.rdCtrl) := fun _ => (by decide : false = (opClass 0x0000 == 0b01))
theorem wrCtrl (wdata : Word) : Statement (.wrCtrl wdata) := fun _ => (by decide : true = (opClass 0x4000 == 0b01))
theorem rdStatus : Statement (.rdStatus) := fun _ => (by decide : false = (opClass 0x0004 == 0b01))
theorem wrStatus (wdata : Word) : Statement (.wrStatus wdata) := fun _ => (by decide : true = (opClass 0x4004 == 0b01))
theorem rdEvents : Statement (.rdEvents) := fun _ => (by decide : false = (opClass 0x0008 == 0b01))
theorem wrEvents (wdata : Word) : Statement (.wrEvents wdata) := fun _ => (by decide : true = (opClass 0x4008 == 0b01))
theorem rdCmd : Statement (.rdCmd) := fun _ => (by decide : false = (opClass 0x000C == 0b01))
theorem send : Statement (.send) := fun _ => (by decide : true = (opClass 0x400C == 0b01))
theorem cancel : Statement (.cancel) := fun _ => (by decide : true = (opClass 0x400C == 0b01))
theorem crcInit : Statement (.crcInit) := fun _ => (by decide : true = (opClass 0x400C == 0b01))
theorem badCmd (wdata : Word) : Statement (.badCmd wdata) := fun _ => (by decide : true = (opClass 0x400C == 0b01))
theorem rdFrameLen : Statement (.rdFrameLen) := fun _ => (by decide : false = (opClass 0x0010 == 0b01))
theorem wrFrameLen (wdata : Word) : Statement (.wrFrameLen wdata) := fun _ => (by decide : true = (opClass 0x4010 == 0b01))
theorem rdPreambleMs : Statement (.rdPreambleMs) := fun _ => (by decide : false = (opClass 0x0014 == 0b01))
theorem wrPreambleMs (wdata : Word) : Statement (.wrPreambleMs wdata) := fun _ => (by decide : true = (opClass 0x4014 == 0b01))
theorem rdTailMs : Statement (.rdTailMs) := fun _ => (by decide : false = (opClass 0x0018 == 0b01))
theorem wrTailMs (wdata : Word) : Statement (.wrTailMs wdata) := fun _ => (by decide : true = (opClass 0x4018 == 0b01))
theorem rdPttLeadMs : Statement (.rdPttLeadMs) := fun _ => (by decide : false = (opClass 0x001C == 0b01))
theorem wrPttLeadMs (wdata : Word) : Statement (.wrPttLeadMs wdata) := fun _ => (by decide : true = (opClass 0x401C == 0b01))
theorem rdPttTrailMs : Statement (.rdPttTrailMs) := fun _ => (by decide : false = (opClass 0x0020 == 0b01))
theorem wrPttTrailMs (wdata : Word) : Statement (.wrPttTrailMs wdata) := fun _ => (by decide : true = (opClass 0x4020 == 0b01))
theorem rdCrc : Statement (.rdCrc) := fun _ => (by decide : false = (opClass 0x0024 == 0b01))
theorem wrCrc (wdata : Word) : Statement (.wrCrc wdata) := fun _ => (by decide : true = (opClass 0x4024 == 0b01))
theorem rdCrcData : Statement (.rdCrcData) := fun _ => (by decide : false = (opClass 0x0028 == 0b01))
theorem wrCrcData (wdata : Word) : Statement (.wrCrcData wdata) := fun _ => (by decide : true = (opClass 0x4028 == 0b01))
theorem rdFcs : Statement (.rdFcs) := fun _ => (by decide : false = (opClass 0x002C == 0b01))
theorem wrFcs (wdata : Word) : Statement (.wrFcs wdata) := fun _ => (by decide : true = (opClass 0x402C == 0b01))
theorem rdPhase : Statement (.rdPhase) := fun _ => (by decide : false = (opClass 0x0030 == 0b01))
theorem wrPhase (wdata : Word) : Statement (.wrPhase wdata) := fun _ => (by decide : true = (opClass 0x4030 == 0b01))
theorem rdParam0 : Statement (.rdParam0) := fun _ => (by decide : false = (opClass 0x0034 == 0b01))
theorem wrParam0 (wdata : Word) : Statement (.wrParam0 wdata) := fun _ => (by decide : true = (opClass 0x4034 == 0b01))
theorem rdParam1 : Statement (.rdParam1) := fun _ => (by decide : false = (opClass 0x0038 == 0b01))
theorem wrParam1 (wdata : Word) : Statement (.wrParam1 wdata) := fun _ => (by decide : true = (opClass 0x4038 == 0b01))
theorem rdSampleCount : Statement (.rdSampleCount) := fun _ => (by decide : false = (opClass 0x003C == 0b01))
theorem wrSampleCount (wdata : Word) : Statement (.wrSampleCount wdata) := fun _ => (by decide : true = (opClass 0x403C == 0b01))
theorem rdTimers : Statement (.rdTimers) := fun _ => (by decide : false = (opClass 0x0040 == 0b01))
theorem wrTimers (wdata : Word) : Statement (.wrTimers wdata) := fun _ => (by decide : true = (opClass 0x4040 == 0b01))
theorem rdEncPos : Statement (.rdEncPos) := fun _ => (by decide : false = (opClass 0x0044 == 0b01))
theorem wrEncPos (wdata : Word) : Statement (.wrEncPos wdata) := fun _ => (by decide : true = (opClass 0x4044 == 0b01))
theorem rdBuf (i : BitVec 9) : Statement (.rdBuf i) := fun _ => readOperand (bufOffset i)
theorem wrBuf (i : BitVec 9) (wdata : Word) : Statement (.wrBuf i wdata) := fun _ => writeOperand (bufOffset i)
theorem rdUnmapped (off : Offset) : Statement (.rdUnmapped off) := fun _ => readOperand (off)
theorem wrUnmapped (off : Offset) (wdata : Word) : Statement (.wrUnmapped off wdata) := fun _ => writeOperand (off)
theorem rdMisaligned (off : Offset) : Statement (.rdMisaligned off) := fun _ => readOperand (off)
theorem wrMisaligned (off : Offset) (wdata : Word) : Statement (.wrMisaligned off wdata) := fun _ => writeOperand (off)
theorem evReset : Statement (.evReset) := fun _ => (by decide : false = (opClass 0x8000 == 0b01))
theorem evSampleStrobe : Statement (.evSampleStrobe) := fun _ => (by decide : false = (opClass 0x8001 == 0b01))
theorem evTimeTick : Statement (.evTimeTick) := fun _ => (by decide : false = (opClass 0x8002 == 0b01))
theorem evSinkDrained : Statement (.evSinkDrained) := fun _ => (by decide : false = (opClass 0x8003 == 0b01))
theorem evSinkFault : Statement (.evSinkFault) := fun _ => (by decide : false = (opClass 0x8004 == 0b01))
theorem invalid (op : BitVec 16) : Statement (.invalid op) := fun h => (h op rfl).elim

end Sys2Proof.Laws.OperandPresence
end

