-- ==== Sys2Proof/Laws/Run.lean ====
section
/-! SUPPORT. Runs and bit streams taken apart: what a run of two pieces does, and the bound on the run of 1s. -/

namespace Sys2Proof.Machine

@[simp] theorem performAll_nil (s : State) : performAll [] s = .next s := rfl

theorem performAll_cons {i : Instr} {is : List Instr} {s t : State} (h : exec i s = .next t) :
    performAll (i :: is) s = performAll is t := by simp [performAll, h]

/-- A run of two pieces is the second from where the first leaves off. -/
theorem performAll_append {xs ys : List Instr} {s t : State} (h : performAll xs s = .next t) :
    performAll (xs ++ ys) s = performAll ys t := by
  induction xs generalizing s with
  | nil => cases h; rfl
  | cons i is ih =>
    simp only [performAll, List.cons_append] at h ⊢
    split at h
    · exact ih h
    · cases h
    · cases h

@[simp] theorem pullBits_zero (s : State) : pullBits 0 s = ([], s) := rfl

@[simp] theorem pullBits_length (n : Nat) (s : State) : (pullBits n s).1.length = n := by
  induction n generalizing s with
  | zero => rfl
  | succ n ih => simp [pullBits, ih]

/-- `m + n` calls are `m` calls and then `n` more. -/
theorem pullBits_add (m n : Nat) (s : State) :
    pullBits (m + n) s =
      ((pullBits m s).1 ++ (pullBits n (pullBits m s).2).1, (pullBits n (pullBits m s).2).2) := by
  induction m generalizing s with
  | zero => simp
  | succ m ih =>
    rw [Nat.succ_add_eq_add_succ, Nat.add_succ]
    simp [pullBits, ih]

/-- Any number of calls changes the framer's own fields only. -/
theorem pullBits_framerOnly (n : Nat) (s : State) : FramerOnly s (pullBits n s).2 := by
  induction n generalizing s with
  | zero => rfl
  | succ n ih => exact (nextBit_framerOnly s).trans (ih _)

/-- A phase test never lengthens the run of 1s. -/
theorem framerPhase_ones (s : State) : (framerPhase s).ones = s.ones ∨ (framerPhase s).ones = 0 := by
  unfold framerPhase
  rcases enterFrame_cases s with ⟨_, _, e⟩ | ⟨_, e⟩ <;> rw [e] <;>
    (rcases enterTail_cases _ with ⟨_, _, _, f⟩ | ⟨_, f⟩ <;> rw [f]) <;>
    (rcases enterDone_cases _ with ⟨_, _, g⟩ | ⟨_, g⟩ <;> rw [g]) <;> simp

@[simp] theorem feedCrc_ones (b : Bool) (s : State) : (feedCrc b s).ones = s.ones := by
  unfold feedCrc; split <;> rfl

@[simp] theorem advanceBit_ones (s : State) : (advanceBit s).ones = s.ones := by
  unfold advanceBit; split
  · split <;> rfl
  · rfl

@[simp] theorem flagBitStep_ones (s : State) : (flagBitStep s).2.ones = s.ones := by
  unfold flagBitStep; dsimp only; split <;> rfl

end Sys2Proof.Machine
end

