-- ==== Sys2Proof/Laws/Sequencer.lean ====
section
/-! SUPPORT. What SEND and the timer tick can do, said once. -/

namespace Sys2Proof.Machine

/-- SEND: one of three rejections, in the order of precedence, or a session starts (44_ptt_sequencer R311, R313). -/
theorem sendCommand_cases (P : Params) (s : State) :
    (s.configLegal = false ∧ sendCommand P s = reject .badConfig s) ∨
    (s.configLegal = true ∧ s.lengthLegal P = false ∧ sendCommand P s = reject .badLength s) ∨
    (s.configLegal = true ∧ s.lengthLegal P = true ∧ s.busy = true ∧ sendCommand P s = reject .busy s) ∨
    (s.configLegal = true ∧ s.lengthLegal P = true ∧ s.busy = false ∧ sendCommand P s = startSession s) := by
  unfold sendCommand
  cases s.configLegal <;> cases s.lengthLegal P <;> cases s.busy <;> simp

/-- A tick: a wait counts down, a wait ends, or nothing happens (44_ptt_sequencer R315). -/
theorem timeTick_cases (P : Params) (s : State) :
    (s.seqState = .pttAssert ∧ s.leadCnt = 0 ∧ timeTick P s = loadBit P s) ∨
    (s.seqState = .pttAssert ∧ s.leadCnt ≠ 0 ∧ timeTick P s = countLead s) ∨
    (s.seqState = .pttRelease ∧ s.drained = true ∧ s.trailCnt = 0 ∧ timeTick P s = endSession s) ∨
    (s.seqState = .pttRelease ∧ s.drained = true ∧ s.trailCnt ≠ 0 ∧ timeTick P s = countTrail s) ∨
    (s.seqState ≠ .pttAssert ∧ (s.seqState = .pttRelease → s.drained = false) ∧ timeTick P s = s) := by
  unfold timeTick
  split
  · next h => simp [h]
  · next h =>
    split
    · next k => exact .inl ⟨h, k, rfl⟩
    · next k => exact .inr (.inl ⟨h, k, rfl⟩)
  · next h => simp [h]
  · next h => simp [h]
  · next h => simp [h]
  · next h =>
    split
    · next d =>
      split
      · next k => exact .inr (.inr (.inl ⟨h, d, k, rfl⟩))
      · next k => exact .inr (.inr (.inr (.inl ⟨h, d, k, rfl⟩)))
    · next d => simp [h, d]

/-- A write under the BUSY lock: refused as a bad access, or its effect (60_exceptions R404). -/
theorem unlessBusy_cases (f : State → State) (s : State) :
    (s.busy = true ∧ unlessBusy f s = accErr s) ∨ (s.busy = false ∧ unlessBusy f s = f s) := by
  unfold unlessBusy
  cases h : s.busy <;> simp

end Sys2Proof.Machine
end

