-- ==== Sys2Proof/Laws/Step.lean ====
section
/-! SUPPORT. What a step can do: nothing, one performed operation, or a refusal. -/

namespace Sys2Proof.Machine

/-- If a step answers a next state, there was no arrival and nothing changed, or the oldest arrival was decoded and
performed with the rest left waiting. -/
theorem step_next {s t : State} (h : step s = .next t) :
    (s.inbox = [] ∧ t = s) ∨
    (∃ o rest i, s.inbox = o :: rest ∧ decode Config.block o = .ok i ∧ exec i { s with inbox := rest } = .next t) := by
  unfold step at h
  split at h
  · next e => exact .inl ⟨e, by cases h; rfl⟩
  · next o rest e =>
    split at h
    · next i d => exact .inr ⟨o, rest, i, e, d, h⟩
    · cases h

/-- No step ends in a fault (60_exceptions R400). -/
theorem step_ne_fault (s : State) (r : Fault) : step s ≠ .fault r := nomatch r

end Sys2Proof.Machine
end

