-- ==== Sys2Proof/Tests/Slice0.lean ====
section
/-! SUPPORT. The model's own tests. Every expected value is the spec's: 95_test_vectors (its vector named beside the test), an
example of the rule named, or the rule's own words. -/

namespace Sys2Proof.Tests

open Sys2Proof Sys2Proof.Machine

/-! ## Small states -/

/-- The state an instruction leaves, if it leaves one. -/
def after (i : Instr) (s : State) : Option State :=
  match exec i s with
  | .next t => some t
  | .fault _ => none
  | .refused _ => none

/-- What an instruction puts out. -/
def answer (i : Instr) (s : State) : Option Response := (after i s).map fun t => t.response

/-- The 17-byte body of V-CRC-8. -/
def bodyBytes : List Byte :=
  [0x82, 0xA0, 0xB4, 0x9A, 0x88, 0xA4, 0x60, 0x9C, 0x60] ++ [0x86, 0x82, 0x98, 0x98, 0x61, 0x03, 0xF0, 0x54]

/-- The same as the contents of the frame buffer. -/
def bodyCells : Memory :=
  [(0, 0x82), (1, 0xA0), (2, 0xB4), (3, 0x9A), (4, 0x88), (5, 0xA4), (6, 0x60), (7, 0x9C), (8, 0x60)] ++
  [(9, 0x86), (10, 0x82), (11, 0x98), (12, 0x98), (13, 0x61), (14, 0x03), (15, 0xF0), (16, 0x54)]

/-- READY, the body loaded, the reset configuration. -/
def loaded : State := { State.reset with buf := bodyCells, frameLen := 17 }

/-- V-PTT-1, after its SEND. -/
def session : State :=
  { loaded with
    seqState := .pttAssert, pttAsserted := true, encState := .preamble, leadCnt := 50, flagsLeft := 53
    latLen := 17, latPre := 53, latTail := 8, latTrail := 20 }

/-- V-PTT-1, before tick 51. -/
def keyed : State := { session with leadCnt := 0 }

/-- V-PTT-1, after tick 51: the first bit is loaded. -/
def preamble : State := { keyed with seqState := .txPreamble, tone := .space, phaseInc := 1365, bitPos := 1 }

/-- The last sample of the last preamble bit is due. -/
def lastOfPreamble : State := { preamble with flagsLeft := 0, bitPos := 0, tone := .mark, phaseInc := 745, sampleIndex := 87 }

/-- In the frame: two bits of BUF[0] are sent, 0 and 1. -/
def framing : State :=
  { preamble with seqState := .txFrame, encState := .frame, flagsLeft := 0, bitPos := 2, ones := 1, crc := 0x7DFB }

/-- Eight bits of V-HDLC-3's byte F8 are sent: the stuffed 0 is due. -/
def stuffing : State := { framing with byteIdx := 1, bitPos := 0, ones := 5 }

/-- The last sample of the last frame bit is due. -/
def lastOfFrame : State :=
  { framing with byteIdx := 19, bitPos := 0, ones := 3, sampleIndex := 87, crc := 0x1EBE, fcs := 0xE141 }

/-- In the tail, the last sample of its last bit is due. -/
def lastOfTail : State := { lastOfFrame with seqState := .txTail, encState := .tail }

/-- After the last sample. -/
def released : State := { lastOfTail with seqState := .pttRelease, encState := .done, sampleIndex := 0 }

/-- The sink has reported the drain; `n` ticks of the trail wait remain. -/
def draining (n : Half) : State := { released with drained := true, trailCnt := n }

/-! ## Well-formedness: each check refuses a term that fails it -/

theorem test_wf_badCmd_refuses_commands :
    (Instr.badCmd 1).wf Config.block = false ∧ (Instr.badCmd 2).wf Config.block = false ∧
    (Instr.badCmd 3).wf Config.block = false ∧ (Instr.badCmd 0).wf Config.block = true := by decide
theorem test_wf_rdBuf : (Instr.rdBuf 328).wf Config.block = false ∧ (Instr.rdBuf 327).wf Config.block = true := by decide
theorem test_wf_wrBuf : (Instr.wrBuf 511 0).wf Config.block = false ∧ (Instr.wrBuf 0 0).wf Config.block = true := by decide
theorem test_wf_rdUnmapped :
    (Instr.rdUnmapped 0x044).wf Config.block = false ∧ (Instr.rdUnmapped 0x049).wf Config.block = false ∧
    (Instr.rdUnmapped 0x048).wf Config.block = true := by decide
theorem test_wf_wrUnmapped :
    (Instr.wrUnmapped 0xD1C 0).wf Config.block = false ∧ (Instr.wrUnmapped 0xD20 0).wf Config.block = true := by decide
theorem test_wf_rdMisaligned :
    (Instr.rdMisaligned 0x010).wf Config.block = false ∧ (Instr.rdMisaligned 0x011).wf Config.block = true := by decide
theorem test_wf_wrMisaligned :
    (Instr.wrMisaligned 0x800 0).wf Config.block = false ∧ (Instr.wrMisaligned 0x802 0).wf Config.block = true := by decide
theorem test_wf_invalid :
    (Instr.invalid 0x0000).wf Config.block = false ∧ (Instr.invalid 0x8004).wf Config.block = false ∧
    (Instr.invalid 0x8005).wf Config.block = true ∧ (Instr.invalid 0x1000).wf Config.block = true := by decide

/-- 00_scope R11: the spec's own parameters describe a block, and 128 samples a bit would not. -/
theorem test_params_wf : Config.block.wf ∧ ¬ ({ Config.block with spb := 128 } : Params).wf :=
  ⟨block_wf, fun h => Nat.not_succ_le_self 127 h.2.1⟩

/-! ## Constants -/

/-- 43_afsk R283: 256 entries, sum 32512, the entries the rule names. -/
theorem test_lut : Config.lutTable.length = 256 ∧ (Config.lutTable.map BitVec.toNat).sum = 32512 ∧
    Config.lutTable[0]? = some 127 ∧ Config.lutTable[64]? = some 254 ∧ Config.lutTable[128]? = some 127 ∧
    (Config.lutTable.drop 189).take 7 = List.replicate 7 0 := by decide +kernel

/-- 43_afsk R280: 745 and 1365. -/
theorem test_increments : Config.phaseIncrement Config.fMark 88 = 745 ∧ Config.phaseIncrement Config.fSpace 88 = 1365 := by decide

/-! ## Decoding: one word a constructor, class, reserved bits and offset written out (30_encoding R140, R147) -/

theorem test_decode_rdCtrl : decodeTableWord 16 0b00_00_000000000000 = some .rdCtrl := by decide
theorem test_decode_wrCtrl : decodeTableWord 48 (0xC0000005 * 0x10000 + 0b01_00_000000000000) = some (.wrCtrl 0xC0000005) := by decide
theorem test_decode_rdStatus : decodeTableWord 16 0b00_00_000000000100 = some .rdStatus := by decide
theorem test_decode_wrStatus : decodeTableWord 48 (0xC0000009 * 0x10000 + 0b01_00_000000000100) = some (.wrStatus 0xC0000009) := by decide
theorem test_decode_rdEvents : decodeTableWord 16 0b00_00_000000001000 = some .rdEvents := by decide
theorem test_decode_wrEvents : decodeTableWord 48 (0xC000000D * 0x10000 + 0b01_00_000000001000) = some (.wrEvents 0xC000000D) := by decide
theorem test_decode_rdCmd : decodeTableWord 16 0b00_00_000000001100 = some .rdCmd := by decide
theorem test_decode_send : decodeTableWord 48 (0x00000001 * 0x10000 + 0b01_00_000000001100) = some .send := by decide
theorem test_decode_cancel : decodeTableWord 48 (0x00000002 * 0x10000 + 0b01_00_000000001100) = some .cancel := by decide
theorem test_decode_crcInit : decodeTableWord 48 (0x00000003 * 0x10000 + 0b01_00_000000001100) = some .crcInit := by decide
theorem test_decode_badCmd : decodeTableWord 48 (0x00000101 * 0x10000 + 0b01_00_000000001100) = some (.badCmd 0x101) := by decide
theorem test_decode_rdFrameLen : decodeTableWord 16 0b00_00_000000010000 = some .rdFrameLen := by decide
theorem test_decode_wrFrameLen : decodeTableWord 48 (0xC0000015 * 0x10000 + 0b01_00_000000010000) = some (.wrFrameLen 0xC0000015) := by decide
theorem test_decode_rdPreambleMs : decodeTableWord 16 0b00_00_000000010100 = some .rdPreambleMs := by decide
theorem test_decode_wrPreambleMs : decodeTableWord 48 (0xC0000019 * 0x10000 + 0b01_00_000000010100) = some (.wrPreambleMs 0xC0000019) := by decide
theorem test_decode_rdTailMs : decodeTableWord 16 0b00_00_000000011000 = some .rdTailMs := by decide
theorem test_decode_wrTailMs : decodeTableWord 48 (0xC000001D * 0x10000 + 0b01_00_000000011000) = some (.wrTailMs 0xC000001D) := by decide
theorem test_decode_rdPttLeadMs : decodeTableWord 16 0b00_00_000000011100 = some .rdPttLeadMs := by decide
theorem test_decode_wrPttLeadMs : decodeTableWord 48 (0xC0000021 * 0x10000 + 0b01_00_000000011100) = some (.wrPttLeadMs 0xC0000021) := by decide
theorem test_decode_rdPttTrailMs : decodeTableWord 16 0b00_00_000000100000 = some .rdPttTrailMs := by decide
theorem test_decode_wrPttTrailMs : decodeTableWord 48 (0xC0000025 * 0x10000 + 0b01_00_000000100000) = some (.wrPttTrailMs 0xC0000025) := by decide
theorem test_decode_rdCrc : decodeTableWord 16 0b00_00_000000100100 = some .rdCrc := by decide
theorem test_decode_wrCrc : decodeTableWord 48 (0xC0000029 * 0x10000 + 0b01_00_000000100100) = some (.wrCrc 0xC0000029) := by decide
theorem test_decode_rdCrcData : decodeTableWord 16 0b00_00_000000101000 = some .rdCrcData := by decide
theorem test_decode_wrCrcData : decodeTableWord 48 (0xC000002D * 0x10000 + 0b01_00_000000101000) = some (.wrCrcData 0xC000002D) := by decide
theorem test_decode_rdFcs : decodeTableWord 16 0b00_00_000000101100 = some .rdFcs := by decide
theorem test_decode_wrFcs : decodeTableWord 48 (0xC0000031 * 0x10000 + 0b01_00_000000101100) = some (.wrFcs 0xC0000031) := by decide
theorem test_decode_rdPhase : decodeTableWord 16 0b00_00_000000110000 = some .rdPhase := by decide
theorem test_decode_wrPhase : decodeTableWord 48 (0xC0000035 * 0x10000 + 0b01_00_000000110000) = some (.wrPhase 0xC0000035) := by decide
theorem test_decode_rdParam0 : decodeTableWord 16 0b00_00_000000110100 = some .rdParam0 := by decide
theorem test_decode_wrParam0 : decodeTableWord 48 (0xC0000039 * 0x10000 + 0b01_00_000000110100) = some (.wrParam0 0xC0000039) := by decide
theorem test_decode_rdParam1 : decodeTableWord 16 0b00_00_000000111000 = some .rdParam1 := by decide
theorem test_decode_wrParam1 : decodeTableWord 48 (0xC000003D * 0x10000 + 0b01_00_000000111000) = some (.wrParam1 0xC000003D) := by decide
theorem test_decode_rdSampleCount : decodeTableWord 16 0b00_00_000000111100 = some .rdSampleCount := by decide
theorem test_decode_wrSampleCount : decodeTableWord 48 (0xC0000041 * 0x10000 + 0b01_00_000000111100) = some (.wrSampleCount 0xC0000041) := by decide
theorem test_decode_rdTimers : decodeTableWord 16 0b00_00_000001000000 = some .rdTimers := by decide
theorem test_decode_wrTimers : decodeTableWord 48 (0xC0000045 * 0x10000 + 0b01_00_000001000000) = some (.wrTimers 0xC0000045) := by decide
theorem test_decode_rdEncPos : decodeTableWord 16 0b00_00_000001000100 = some .rdEncPos := by decide
theorem test_decode_wrEncPos : decodeTableWord 48 (0xC0000049 * 0x10000 + 0b01_00_000001000100) = some (.wrEncPos 0xC0000049) := by decide
theorem test_decode_rdBuf : decodeTableWord 16 0b00_00_110100011100 = some (.rdBuf 327) := by decide
theorem test_decode_wrBuf : decodeTableWord 48 (0x00000182 * 0x10000 + 0b01_00_100000000100) = some (.wrBuf 1 0x182) := by decide
theorem test_decode_rdUnmapped : decodeTableWord 16 0b00_00_110100100000 = some (.rdUnmapped 0xD20) := by decide
theorem test_decode_wrUnmapped : decodeTableWord 48 (0x00000001 * 0x10000 + 0b01_00_011111111100) = some (.wrUnmapped 0x7FC 1) := by decide
theorem test_decode_rdMisaligned : decodeTableWord 16 0b00_00_100000000010 = some (.rdMisaligned 0x802) := by decide
theorem test_decode_wrMisaligned : decodeTableWord 48 (0x00000005 * 0x10000 + 0b01_00_000000010001) = some (.wrMisaligned 0x011 5) := by decide
theorem test_decode_evReset : decodeTableWord 16 0b10_00_00000000_0000 = some .evReset := by decide
theorem test_decode_evSampleStrobe : decodeTableWord 16 0b10_00_00000000_0001 = some .evSampleStrobe := by decide
theorem test_decode_evTimeTick : decodeTableWord 16 0b10_00_00000000_0010 = some .evTimeTick := by decide
theorem test_decode_evSinkDrained : decodeTableWord 16 0b10_00_00000000_0011 = some .evSinkDrained := by decide
theorem test_decode_evSinkFault : decodeTableWord 16 0b10_00_00000000_0100 = some .evSinkFault := by decide
theorem test_decode_invalid : decodeTableWord 16 0b10_00_00000000_0101 = some (.invalid 0x8005) := by decide

/-- A WRITE brings an operand and a READ brings none (30_encoding R140). -/
theorem test_decode_operands : decode Config.block ⟨0x4000, none⟩ = .error .operandMissing ∧
    decode Config.block ⟨0x0000, some 0⟩ = .error .operandNotTaken ∧
    decode Config.block ⟨0x8002, some 0⟩ = .error .operandNotTaken := ⟨rfl, rfl, rfl⟩

/-- The encoder, at a word the map gives (30_encoding R149). -/
theorem test_encode : encode (.wrBuf 327 0x55) = ⟨0x4D1C, some 0x55⟩ ∧ encode (.rdUnmapped 0xFFC) = ⟨0x0FFC, none⟩ := by decide

/-- 30_encoding R150: LOADFRAME. -/
theorem test_assemble : assemble [.loadFrame [0x82, 0xA0], .clrEv 2, .evTimes .timeTick 2] =
    [⟨0x4800, some 0x82⟩, ⟨0x4804, some 0xA0⟩, ⟨0x4010, some 2⟩, ⟨0x4008, some 2⟩, ⟨0x8002, none⟩, ⟨0x8002, none⟩] := by decide

/-- 30_encoding R149, the forms of lines that 95_test_vectors' programs use; text of no form is rejected. -/
theorem test_parseLine :
    ["RD STATUS ; -> 0x00000711", "WR @0x011, 5", "RD BUF[327]", "EV SAMPLE * 3", "CRCB '1'", "; nothing"].map
      (fun l => (parseLine? l.toList).map assemble) =
    [some [⟨0x0004, none⟩], some [⟨0x4011, some 5⟩], some [⟨0x0D1C, none⟩], some (List.replicate 3 ⟨0x8001, none⟩),
      some [⟨0x4028, some 0x31⟩], some []] := by decide +kernel
theorem test_parseLine_rejects :
    ["RD NOWHERE", "WR CMD", "WR CMD, 0x100000000", "RD @0x1000", "EV SAMPLE 3"].map (fun l => parseLine? l.toList) =
      List.replicate 5 none := by decide +kernel
theorem test_parseProgram :
    (parseProgram? ["EV RESET", "LOADFRAME 0x82,0xA0", "SEND"]).map assemble =
    some [⟨0x8000, none⟩, ⟨0x4800, some 0x82⟩, ⟨0x4804, some 0xA0⟩, ⟨0x4010, some 2⟩, ⟨0x400C, some 1⟩] := by decide +kernel

/-- 60_exceptions R411: a fault that comes together with a strobe and a tick is performed first. -/
theorem test_serialise :
    serialise [⟨0x8002, none⟩, ⟨0xC000, none⟩, ⟨0x8003, none⟩, ⟨0x8001, none⟩, ⟨0x4010, some 1⟩, ⟨0x0004, none⟩, ⟨0x8004, none⟩, ⟨0x8000, none⟩] =
    [⟨0x8000, none⟩, ⟨0x8004, none⟩, ⟨0x4010, some 1⟩, ⟨0x0004, none⟩, ⟨0x8001, none⟩, ⟨0x8003, none⟩, ⟨0x8002, none⟩, ⟨0xC000, none⟩] := by decide

/-! ## One step an instruction -/

/-- V-BUS-1, V-BUS-14. -/
theorem test_rdCtrl : answer .rdCtrl State.reset = some (.rdata 1) ∧
    answer .rdCtrl { State.reset with ieDone := true, ieErr := true } = some (.rdata 0x0000000D) := by decide

/-- V-BUS-14: the enables are stored, the locked bits are not. -/
theorem test_wrCtrl_locked : (after (.wrCtrl 0x00) { session with ieDone := true }).map (fun t => (t.ctrlWord, t.evAccErr)) =
    some (0x00000001, true) := by decide
theorem test_wrCtrl_enables : (after (.wrCtrl 0x0D) session).map (fun t => (t.ctrlWord, t.evAccErr)) =
    some (0x0000000D, false) := by decide

/-- V-PTT-1, and P4 for the other polarity in READY. -/
theorem test_rdStatus : answer .rdStatus session = some (.rdata 0x00000711) ∧
    answer .rdStatus preamble = some (.rdata 0x00000F12) ∧
    answer .rdStatus { State.reset with pttPol := false } = some (.rdata 0x00000400) ∧
    answer .rdStatus { State.reset with errCode := .badLength } = some (.rdata 0x00030000) := by decide

/-- P3. -/
theorem test_wrStatus : (after (.wrStatus 0) loaded).map (fun t => t.eventsWord) = some 4 := by decide

/-- P3. -/
theorem test_rdEvents : answer .rdEvents { State.reset with evErr := true, evAccErr := true } = some (.rdata 6) := by decide

/-- V-BUS-18, and P3's CLREV 2. -/
theorem test_wrEvents : (after (.wrEvents 5) { State.reset with evDone := true, evErr := true, evAccErr := true, errCode := .busy }).map
    (fun t => (t.eventsWord, t.errCode)) = some (2, .busy) := by decide
theorem test_wrEvents_err : (after (.wrEvents 2) { State.reset with evErr := true, errCode := .badLength }).map
    (fun t => (t.eventsWord, t.errCode)) = some (0, .none) := by decide

/-- V-BUS-17. -/
theorem test_rdCmd : (after .rdCmd State.reset).map (fun t => (t.response, t.evAccErr)) = some (.rdata 0, false) := by decide
theorem test_rdCrcData : (after .rdCrcData State.reset).map (fun t => (t.response, t.evAccErr)) = some (.rdata 0, false) := by decide

/-- V-PTT-1, V-HDLC-7; V-BUS-12: bad configuration wins over bad length. -/
theorem test_send : (after .send loaded).map (fun t => (t.statusWord, t.timersWord, t.encPosWord, t.latTail)) =
    some (0x00000711, 0x00000032, 0x00350000, 8) := by decide
theorem test_send_refused : (after .send { State.reset with preambleMs := 99 }).map (fun t => (t.statusWord, t.eventsWord)) =
    some (0x00020000, 2) := by decide

/-- V-PTT-8. -/
theorem test_cancel : (after .cancel session).map (fun t => t.statusWord) = some 0x00002711 ∧
    (after .cancel loaded).map (fun t => t.cancelPend) = some false := by decide

/-- P1, V-CRC-14. -/
theorem test_crcInit : (after .crcInit { State.reset with crc := 0x6F91 }).map (fun t => t.crc) = some 0xFFFF ∧
    (after .crcInit { session with crc := 0x1234 }).map (fun t => (t.crc, t.errCode, t.evErr)) = some (0x1234, .busy, true) := by decide

/-- V-BUS-7. -/
theorem test_badCmd : (after (.badCmd 0x101) State.reset).map (fun t => t.statusWord) = some 0x00050000 := by decide

/-- V-BUS-8, V-BUS-16. -/
theorem test_wrFrameLen : (after (.wrFrameLen 600) State.reset).map (fun t => t.frameLen) = some 88 ∧
    (after (.wrFrameLen 16) session).map (fun t => (t.frameLen, t.evAccErr)) = some (17, true) := by decide
theorem test_rdFrameLen : answer .rdFrameLen loaded = some (.rdata 0x00000011) := by decide

/-- V-BUS-11, and the other three registers by their rule (45_host_bus R364, R365). -/
theorem test_wrPreambleMs : (after (.wrPreambleMs 0x10064) session).map (fun t => (t.preambleMs, t.tailMs)) = some (100, 50) := by decide
theorem test_wrTailMs : (after (.wrTailMs 10) State.reset).map (fun t => (t.tailMs, t.preambleMs)) = some (10, 350) := by decide
theorem test_wrPttLeadMs : (after (.wrPttLeadMs 0xFFFF) session).map (fun t => (t.pttLeadMs, t.leadCnt)) = some (0xFFFF, 50) := by decide
theorem test_wrPttTrailMs : (after (.wrPttTrailMs 7) State.reset).map (fun t => (t.pttTrailMs, t.pttLeadMs)) = some (7, 50) := by decide

/-- V-BUS-1. -/
theorem test_rdTimings : answer .rdPreambleMs State.reset = some (.rdata 0x0000015E) ∧ answer .rdTailMs State.reset = some (.rdata 0x32) ∧
    answer .rdPttLeadMs State.reset = some (.rdata 0x32) ∧ answer .rdPttTrailMs State.reset = some (.rdata 0x14) := by decide

/-- P1. -/
theorem test_rdCrc : answer .rdCrc { State.reset with crc := 0x6F91 } = some (.rdata 0x00006F91) := by decide

/-- V-CRC-12, V-CRC-13. -/
theorem test_wrCrcData : (after (.wrCrcData 0x100) State.reset).map (fun t => t.crc) = some 0x0F87 := by decide
theorem test_wrCrcData_locked : (after (.wrCrcData 0x31) session).map (fun t => (t.crc, t.evAccErr)) = some (0xFFFF, true) := by decide

/-- P2. -/
theorem test_rdFcs : answer .rdFcs released = some (.rdata 0x0000E141) := by decide

/-- V-AFSK-5's PHASE. -/
theorem test_rdPhase : answer .rdPhase { State.reset with phaseAcc := 0xD538, phaseInc := 1365 } = some (.rdata 0x0555D538) := by decide

/-- V-BUS-1. -/
theorem test_rdParams : answer .rdParam0 State.reset = some (.rdata 0x055502E9) ∧
    answer .rdParam1 State.reset = some (.rdata 0x01480058) := by decide

/-- V-AFSK-6. -/
theorem test_rdSampleCount : answer .rdSampleCount { State.reset with sampleCount := 56320 } = some (.rdata 0x0000DC00) := by decide

/-- 45_host_bus R373, 10_state R74. -/
theorem test_rdTimers : answer .rdTimers (draining 20) = some (.rdata 0x00140000) := by decide

/-- P5, V-HDLC-8. -/
theorem test_rdEncPos : answer .rdEncPos { framing with sampleIndex := 12 } = some (.rdata 0x0C001400) ∧
    answer .rdEncPos released = some (.rdata 0x00003013) := by decide

/-- V-BUS-5 and its like: a read-only register keeps its value. -/
theorem test_wrReadOnly : (after (.wrPhase 0) State.reset).map (fun t => (t.phaseWord, t.evAccErr)) = some (0x02E90000, true) ∧
    (after (.wrCrc 5) State.reset).map (fun t => (t.crc, t.evAccErr)) = some (0xFFFF, true) ∧
    (after (.wrFcs 5) State.reset).map (fun t => (t.fcs, t.evAccErr)) = some (0, true) ∧
    (after (.wrSampleCount 0) { session with sampleCount := 7 }).map (fun t => (t.sampleCount, t.evAccErr)) = some (7, true) := by decide
theorem test_wrReadOnly_rest :
    [Instr.wrParam0 1, .wrParam1 1, .wrTimers 1, .wrEncPos 1].map (fun i => after i session) =
      List.replicate 4 (some { session with evAccErr := true }) := by decide

/-- P3, V-BUS-15. -/
theorem test_rdBuf : answer (.rdBuf 0) loaded = some (.rdata 0x00000082) ∧ answer (.rdBuf 16) session = some (.rdata 0x54) := by decide
theorem test_wrBuf : (after (.wrBuf 0 0x182) loaded).map (fun t => (t.bufByte 0, t.bufByte 1)) = some (0x82, 0xA0) ∧
    (after (.wrBuf 20 7) loaded).map (fun t => t.buf) = some (bodyCells ++ [(20, 7)]) := by decide
theorem test_wrBuf_locked : after (.wrBuf 0 0x55) session = some { session with evAccErr := true } := by decide

/-- V-BUS-4. -/
theorem test_unmapped : (after (.rdUnmapped 0x048) State.reset).map (fun t => (t.response, t.eventsWord)) = some (.rdata 0, 4) ∧
    after (.wrUnmapped 0x7FC 1) State.reset = some { State.reset with evAccErr := true } := by decide

/-- V-BUS-2, V-BUS-3. -/
theorem test_misaligned : (after (.rdMisaligned 0x001) State.reset).map (fun t => (t.response, t.eventsWord)) = some (.rdata 0, 4) ∧
    after (.wrMisaligned 0x011 5) State.reset = some { State.reset with evAccErr := true } := by decide

/-- 70_reset_and_hazards R440: a RESET in a session ends it at once. -/
theorem test_evReset : (after .evReset { session with pttPol := false, evDone := true }).map
    (fun t => (t.statusWord, t.eventsWord, t.pttPin, t.phaseWord)) = some (0, 0, false, 0x02E90000) := by decide

/-- V-AFSK-5's first sample; V-AFSK-4's wrap. -/
theorem test_evSampleStrobe : (after .evSampleStrobe preamble).map (fun t => (t.response, t.phaseWord, t.sampleIndex)) =
    some (.sample 143, 0x05550555, 1) := by decide
theorem test_evSampleStrobe_wrap : (after .evSampleStrobe { preamble with phaseAcc := 65000, phaseInc := 745 }).map
    (fun t => (t.response, t.phaseAcc)) = some (.sample 127, 209) := by decide

/-- V-HDLC-8, P2: the last strobe of the tail ends the audio; V-AFSK-7: a strobe outside the TX states. -/
theorem test_evSampleStrobe_end : (after .evSampleStrobe lastOfTail).map (fun t => (t.seqState, t.encState, t.pttAsserted, t.sampleIndex)) =
    some (.pttRelease, .done, true, 0) ∧ after .evSampleStrobe session = some session := by decide

/-- V-PTT-1's tick 51; V-PTT-3's end. -/
theorem test_evTimeTick : (after .evTimeTick keyed).map (fun t => (t.statusWord, t.phaseWord, t.encPosWord)) =
    some (0x00000F12, 0x05550000, 0x00350200) ∧ (after .evTimeTick session).map (fun t => t.leadCnt) = some 49 := by decide
theorem test_evTimeTick_end : (after .evTimeTick (draining 0)).map (fun t => (t.seqState, t.encState, t.pttPin, t.eventsWord, t.encPosWord)) =
    some (.ready, .idle, false, 1, 0x00003013) := by decide

/-- V-PTT-1 step 5, V-PTT-5. -/
theorem test_evSinkDrained : (after .evSinkDrained released).map (fun t => (t.drained, t.trailCnt)) = some (true, 20) ∧
    after .evSinkDrained lastOfTail = some lastOfTail := by decide

/-- P5, V-PTT-6. -/
theorem test_evSinkFault : (after .evSinkFault { framing with sampleIndex := 12 }).map (fun t => (t.statusWord, t.eventsWord, t.encPosWord)) =
    some (0x00040800, 2, 0x0C001400) ∧ after .evSinkFault loaded = some loaded := by decide

/-- 30_encoding R143. -/
theorem test_invalid : after (.invalid 0xC000) loaded = none := by decide

/-- `step` performs the oldest arrival, and `withFetchWord` makes an operation the oldest. -/
theorem test_step : step ({ loaded with inbox := [⟨0x8004, none⟩] }.withFetchWord 16 0x0010) =
    .next { loaded with inbox := [⟨0x8004, none⟩], response := .rdata 17 } := rfl

/-! ## Blocks with other parameters -/

/-- 43_afsk R280 at SPB = 80, S = 96000: 1200 x 65536 / S = 819.2 and 2200 x 65536 / S = 1501.87. -/
def slower : Params := { Config.block with spb := 80, dmark := 819, dspace := 1502 }

theorem test_atRate : Config.atRate? 88 = some Config.block ∧ Config.atRate? 80 = some slower := ⟨rfl, rfl⟩

/-- 00_scope R11: at one sample a bit DMARK would be 65536, which is not in 0..65535. -/
theorem test_atRate_too_slow : (Config.atRate? 1).isNone = true := by decide

/-- 10_state R70-R72 and 43_afsk R290 with 80 samples a bit: the 80th ends the bit. -/
theorem test_slower_reset : (State.resetFor slower).phaseWord = 0x03330000 := by decide
theorem test_slower_params :
    execFor slower .rdParam0 loaded = .next { loaded with response := .rdata 0x05DE0333 } ∧
    execFor slower .rdParam1 loaded = .next { loaded with response := .rdata 0x01480050 } := ⟨rfl, rfl⟩
theorem test_slower_strobe : (sampleStrobe slower { preamble with sampleIndex := 79 }).sampleIndex = 0 ∧
    (sampleStrobe slower { preamble with sampleIndex := 79 }).bitPos = 2 ∧
    (sampleStrobe slower { preamble with sampleIndex := 78 }).sampleIndex = 79 := by decide

/-- 30_encoding R144 with BODY_MAX = 20: the 20th entry is the last, and SEND takes no longer body. -/
theorem test_shorter :
    decode { Config.block with bodyMax := 20 } ⟨0x084C, none⟩ = .ok (.rdBuf 19) ∧
    decode { Config.block with bodyMax := 20 } ⟨0x0850, none⟩ = .ok (.rdUnmapped 0x850) ∧
    stepFor { Config.block with bodyMax := 20 } { loaded with frameLen := 21, inbox := [⟨0x400C, some 1⟩] } =
      .next { loaded with frameLen := 21, errCode := .badLength, evErr := true } := ⟨rfl, rfl, rfl⟩

/-! ## The generators -/

/-- V-CRC-10. -/
theorem test_crcBit : crcBit 0xFFFF false = 0xFBF7 ∧ crcBit 0xFFFF true = 0x7FFF ∧ crcBit 0x0000 true = 0x8408 ∧
    crcBit 0x0000 false = 0x0000 ∧ crcBit 0x0001 true = 0x0000 ∧ crcBit 0x0001 false = 0x8408 := by decide

/-- V-CRC-3 to V-CRC-7. -/
theorem test_crcOf_byte : [0x00, 0xFF, 0x41, 0x7E, 0x01].map (fun x => crcOf [x]) = [0x0F87, 0x00FF, 0x5C0A, 0x957E, 0x1E0E] := by decide

/-- V-CRC-1 and V-CRC-8. -/
theorem test_crcOf_digits : fcsOf [0x31, 0x32, 0x33, 0x34, 0x35, 0x36, 0x37, 0x38, 0x39] = 0x906E := by decide +kernel
theorem test_crcOf_body : fcsOf bodyBytes = 0xE141 := by decide +kernel

/-- V-HDLC-2. -/
theorem test_nflags : [10, 50, 100, 350, 500, 1000].map nflags = [2, 8, 15, 53, 75, 150] := by decide

/-- V-HDLC-7, and the change to the frame: bit 0 of 0x82 is 0 and changes the CRC (V-CRC-10). -/
theorem test_nextBit_flag : (nextBit session).1 = .bit false ∧ (nextBit session).2.encPosWord = 0x00350200 := by decide
theorem test_nextBit_frame : (nextBit lastOfPreamble).1 = .bit false ∧ (nextBit lastOfPreamble).2.encState = .frame ∧
    (nextBit lastOfPreamble).2.crc = 0xFBF7 ∧ (nextBit lastOfPreamble).2.bitPos = 1 := by decide

/-- 41_hdlc_framer R239: the stuffed bit changes `ones` only; R238: the FCS is latched after the body's last bit. -/
theorem test_nextBit_stuffed : nextBit stuffing = (.bit false, { stuffing with ones := 0 }) := by decide
theorem test_nextBit_latch : (nextBit { framing with byteIdx := 16, bitPos := 7, crc := 0x0001, ones := 0 }).2.fcs = ~~~(0x8408 : Half) := by decide

/-- V-HDLC-3: F8 then 03, a 0 stuffed between them; V-HDLC-5: a 0 stuffed after the last bit. -/
theorem test_stuff : stuff 0 ([0xF8, 0x03].flatMap lsbFirst) =
    (lsbFirst 0xF8 ++ [false] ++ lsbFirst 0x03) ∧ stuff 0 (lsbFirst 0xF8) = lsbFirst 0xF8 ++ [false] ∧
    unstuff 0 (stuff 0 (lsbFirst 0xF8)) = lsbFirst 0xF8 := by decide

/-- V-NRZI-1, V-NRZI-3: the tones of a bit string. -/
theorem test_nrzi : ([false, true, true, true, true, true, true, false].scanl nrzi .mark).tail =
      [.space, .space, .space, .space, .space, .space, .space, .mark] ∧
    ((lsbFirst 0x03).scanl nrzi .space).tail = [.space, .space, .mark, .space, .mark, .space, .mark, .space] := by decide

/-! ## Witnesses: for every statement with hypotheses a state and operands that meet all of them, clause by clause -/

theorem session_consistent : session.Consistent Config.block where
  phases := by decide
  drained_in_release := by decide
  cancel_while_busy := by decide
  keyed_iff_busy := by decide
  lead_in_assert := by decide
  trail_after_drain := by decide
  ones_at_most_five := by decide
  sample_in_bit := by decide

theorem session_inRange : session.InRange Config.block where
  flags := by decide
  bytes := by decide
  bytes_of_frame := by decide
  body := by decide
  preamble := by decide
  tail := by decide
  fresh := fun _ => ⟨by decide, by decide, by decide, by decide, by decide, by decide⟩
  increment := by decide

theorem lastOfFrame_consistent : lastOfFrame.Consistent Config.block where
  phases := by decide
  drained_in_release := by decide
  cancel_while_busy := by decide
  keyed_iff_busy := by decide
  lead_in_assert := by decide
  trail_after_drain := by decide
  ones_at_most_five := by decide
  sample_in_bit := by decide

theorem lastOfFrame_inRange : lastOfFrame.InRange Config.block where
  flags := by decide
  bytes := by decide
  bytes_of_frame := by decide
  body := by decide
  preamble := by decide
  tail := by decide
  fresh := fun h => absurd h (by decide)
  increment := by decide

theorem draining_consistent : (draining 20).Consistent Config.block where
  phases := by decide
  drained_in_release := by decide
  cancel_while_busy := by decide
  keyed_iff_busy := by decide
  lead_in_assert := by decide
  trail_after_drain := by decide
  ones_at_most_five := by decide
  sample_in_bit := by decide

theorem draining_inRange : (draining 20).InRange Config.block where
  flags := by decide
  bytes := by decide
  bytes_of_frame := by decide
  body := by decide
  preamble := by decide
  tail := by decide
  fresh := fun h => absurd h (by decide)
  increment := by decide

theorem session_safe : session.Safe Config.block := ⟨session_consistent, session_inRange, by decide⟩
theorem lastOfFrame_safe : lastOfFrame.Safe Config.block := ⟨lastOfFrame_consistent, lastOfFrame_inRange, by decide⟩
theorem draining_safe : (draining 20).Safe Config.block := ⟨draining_consistent, draining_inRange, by decide⟩

theorem session_fresh : session.framerFresh := ⟨by decide, by decide, by decide, by decide, by decide, by decide⟩

theorem test_witness_DecodeOfEncodeIsTheInstruction :
    [Instr.rdBuf 0, .wrBuf 327 0xFFFFFFFF, .rdUnmapped 0x048, .wrUnmapped 0xFFC 0, .rdMisaligned 0xFFF, .wrMisaligned 0x001 1,
      .badCmd 0, .send, .evReset, .invalid 0xFFFF].all (fun i => i.wf Config.block) = true := by decide

theorem test_witness_EncodeOfDecodeIsTheOperation :
    decode Config.block ⟨0x4D1C, some 5⟩ = .ok (.wrBuf 327 5) ∧ ∀ op, Instr.wrBuf 327 5 ≠ .invalid op :=
  ⟨rfl, fun _ h => nomatch h⟩

theorem test_witness_DecodedInstructionsAreWellFormed : decode Config.block ⟨0x0D20, none⟩ = .ok (.rdUnmapped 0xD20) := rfl

theorem test_witness_DecoderFollowsTheOpcodeTable :
    (0xFFFF : BitVec 16) ≠ 0x400C ∧ decode Config.block ⟨0x400C, some 4⟩ = .ok (.badCmd 4) := ⟨by decide, rfl⟩

theorem test_witness_IllegalWordsAreRefused :
    decode Config.block ⟨0xC000, none⟩ = .ok (.invalid 0xC000) ∧ decode Config.block ⟨0x1000, some 1⟩ = .ok (.invalid 0x1000) ∧
    decode Config.block ⟨0x8010, none⟩ = .ok (.invalid 0x8010) ∧ decode Config.block ⟨0x8005, none⟩ = .ok (.invalid 0x8005) :=
  ⟨rfl, rfl, rfl, rfl⟩

theorem test_witness_StepPerformsTheOldestArrival :
    ({ loaded with inbox := [⟨0x0004, none⟩] } : State).inbox = ⟨0x0004, none⟩ :: [] ∧
    decode Config.block ⟨0x0004, none⟩ = .ok .rdStatus := ⟨rfl, rfl⟩

theorem test_witness_StepWithoutAnOperation :
    State.reset.inbox = [] ∧ ({ loaded with inbox := [⟨0x4000, none⟩] } : State).inbox = ⟨0x4000, none⟩ :: [] ∧
    decode Config.block ⟨0x4000, none⟩ = .error .operandMissing := ⟨rfl, rfl, rfl⟩

theorem test_witness_FetchWordPerformsItsInstruction : decodeTableWord 48 0x1400C = some .send := by decide

/-- Each side of each boundary between good and bad offsets. -/
theorem test_witness_ReadsChangeNothingBeyondAccErr :
    (∀ off ∈ ([0x048, 0x7FC, 0xD20, 0xFFC, 0x001, 0xFFF] : List Offset), badOffset off) ∧
    (∀ off ∈ ([0x000, 0x044, 0x800, 0xD1C] : List Offset), ¬ badOffset off) ∧
    decode Config.block ⟨(0xD1C : Offset).setWidth 16, none⟩ = .ok (.rdBuf 327) ∧
    decode Config.block ⟨(0xD20 : Offset).setWidth 16, none⟩ = .ok (.rdUnmapped 0xD20) := by
  exact ⟨by simp [badOffset], by simp [badOffset], rfl, rfl⟩

theorem test_witness_MisalignedAccessIsBad : (0x001 : Offset).toNat % 4 ≠ 0 ∧ (0xFFF : Offset).toNat % 4 ≠ 0 := by decide

theorem test_witness_UnmappedAccessIsBad : ∀ off ∈ ([0x048, 0x7FC, 0xD20, 0xFFC] : List Offset),
    off.toNat % 4 = 0 ∧ ((0x048 ≤ off.toNat ∧ off.toNat ≤ 0x7FC) ∨ 0xD20 ≤ off.toNat) := by simp

theorem test_witness_BufferReadIsStable :
    (327 : BitVec 9).toNat < 328 ∧ exec (.wrBuf 326 1) loaded = .next (respond .none (loaded.storeBuf 326 1)) ∧
    Instr.wrBuf 326 1 ≠ .evReset ∧ ∀ w, Instr.wrBuf 326 1 ≠ .wrBuf 327 w :=
  ⟨by decide, rfl, by decide, fun _ h => nomatch h⟩

/-- A READY and a BUSY state: both clauses of every rule with a lock. -/
theorem test_witness_locks : loaded.seqState = .ready ∧ session.seqState ≠ .ready ∧ (327 : BitVec 9).toNat < 328 := by decide

theorem test_witness_CtrlWriteObeysTheLock :
    ((0xD : Word).getLsbD 0 = session.pttPol ∧ (0xD : Word).getLsbD 1 = session.nrziInit) ∧
    (0x0 : Word).getLsbD 0 ≠ session.pttPol ∧ (0x3 : Word).getLsbD 1 ≠ session.nrziInit ∧
    session.seqState ≠ .ready ∧ loaded.seqState = .ready := by decide

/-- What the statement about SEND asks of configuration and length, on both sides of each bound. -/
theorem test_witness_SendChecksThenStartsTheSession :
    (∀ p ∈ ([(99, 10), (1001, 10), (100, 9), (100, 501)] : List (Nat × Nat)),
      ¬ (100 ≤ p.1 ∧ p.1 ≤ 1000 ∧ 10 ≤ p.2 ∧ p.2 ≤ 500)) ∧
    (∀ p ∈ ([(100, 10), (1000, 500)] : List (Nat × Nat)), 100 ≤ p.1 ∧ p.1 ≤ 1000 ∧ 10 ≤ p.2 ∧ p.2 ≤ 500) ∧
    (∀ l ∈ [15, 329], ¬ (16 ≤ l ∧ l ≤ 328)) ∧ (∀ l ∈ [16, 328], 16 ≤ l ∧ l ≤ 328) ∧
    (100 ≤ loaded.preambleMs.toNat ∧ loaded.preambleMs.toNat ≤ 1000 ∧ 10 ≤ loaded.tailMs.toNat ∧ loaded.tailMs.toNat ≤ 500) ∧
    (16 ≤ loaded.frameLen.toNat ∧ loaded.frameLen.toNat ≤ 328) ∧ loaded.seqState = .ready ∧ session.seqState ≠ .ready := by decide

theorem test_witness_FlagCountIsLeast : (100 ≤ 100 ∧ 100 ≤ 1000) ∧ (100 ≤ 1000 ∧ 1000 ≤ 1000) ∧ (10 ≤ 10 ∧ 10 ≤ 500) ∧
    (10 ≤ 500 ∧ 500 ≤ 500) := by decide

theorem test_witness_TimeTickServesTheWaits :
    (session.seqState = .pttAssert ∧ session.leadCnt ≠ 0) ∧ (keyed.seqState = .pttAssert ∧ keyed.leadCnt = 0) ∧
    ((draining 20).seqState = .pttRelease ∧ (draining 20).drained = true ∧ (draining 20).trailCnt ≠ 0) ∧
    ((draining 0).seqState = .pttRelease ∧ (draining 0).drained = true ∧ (draining 0).trailCnt = 0) ∧
    (released.seqState ≠ .pttAssert ∧ ¬ (released.seqState = .pttRelease ∧ released.drained = true)) := by decide

theorem test_witness_SinkDrainedStartsTheTrailWait :
    (released.seqState = .pttRelease ∧ released.drained = false) ∧
    ¬ (lastOfTail.seqState = .pttRelease ∧ lastOfTail.drained = false) := by decide

theorem test_witness_SampleStrobeTakesOneSample :
    preamble.seqState = .txPreamble ∧ framing.seqState = .txFrame ∧ lastOfTail.seqState = .txTail ∧
    (lastOfTail.sampleIndex + 1).toNat = 88 ∧ (framing.sampleIndex + 1).toNat ≠ 88 ∧
    loaded.seqState = .ready ∧ session.seqState = .pttAssert ∧ released.seqState = .pttRelease := by decide

theorem test_witness_LoadBitModulatesOrReleases :
    (nextBit lastOfTail).1 = .endOfSession ∧ (nextBit keyed).1 = .bit false ∧ (nextBit preamble).1 = .bit true := by decide

theorem test_witness_NextBitFollowsItsPhase :
    loaded.encState = .idle ∧ released.encState = .done ∧ (lastOfTail.encState = .tail ∧ lastOfTail.flagsLeft = 0) ∧
    (session.encState = .preamble ∧ session.flagsLeft ≠ 0) ∧ (lastOfPreamble.encState = .preamble ∧ lastOfPreamble.flagsLeft = 0) ∧
    (lastOfFrame.encState = .frame ∧ lastOfFrame.ones ≠ 5 ∧ lastOfFrame.byteIdx.toNat = lastOfFrame.latLen.toNat + 2) ∧
    (stuffing.encState = .frame ∧ stuffing.ones = 5) ∧
    (framing.encState = .frame ∧ framing.ones ≠ 5 ∧ framing.byteIdx.toNat < framing.latLen.toNat + 2) := by decide

theorem test_witness_ResetDrawsTheBufferAnew : (0 : BitVec 9).toNat < 328 ∧ (327 : BitVec 9).toNat < 328 := by decide

/-- Safe states in which a step waits, runs through the frame and counts the trail wait down. -/
theorem test_witness_invariants :
    session.Safe Config.block ∧ lastOfFrame.Safe Config.block ∧ (draining 20).Safe Config.block ∧
    (∃ t, step (session.withFetchWord 16 0x8002) = .next t) ∧ (∃ t, step (lastOfFrame.withFetchWord 16 0x8001) = .next t) ∧
    (∃ t, step ((draining 20).withFetchWord 16 0x8002) = .next t) :=
  ⟨session_safe, lastOfFrame_safe, draining_safe, ⟨_, rfl⟩, ⟨_, rfl⟩, ⟨_, rfl⟩⟩

/-- The invariants' hypotheses at a state with an arrival, as `step` takes them. -/
theorem test_witness_invariants_arrival :
    (session.withFetchWord 16 0x8002).Consistent Config.block ∧ (session.withFetchWord 16 0x8002).InRange Config.block ∧
    Memory.wf Config.block (session.withFetchWord 16 0x8002).buf :=
  ⟨⟨by decide, by decide, by decide, by decide, by decide, by decide, by decide, by decide⟩,
    ⟨by decide, by decide, by decide, by decide, by decide, by decide,
      fun _ => ⟨by decide, by decide, by decide, by decide, by decide, by decide⟩, by decide⟩, by decide⟩

theorem test_witness_SequencerMovesAsItsTableSays :
    (∀ op, Instr.evTimeTick ≠ .invalid op) ∧ (session.seqState = .pttAssert ∧ session.leadCnt ≠ 0) ∧
    ((draining 20).seqState = .pttRelease ∧ (draining 20).drained = true ∧ (draining 20).trailCnt ≠ 0) ∧
    sequencerNext loaded .send = .pttAssert ∧ sequencerNext keyed .evTimeTick = .txPreamble ∧
    sequencerNext lastOfPreamble .evSampleStrobe = .txFrame ∧ sequencerNext lastOfFrame .evSampleStrobe = .txTail ∧
    sequencerNext lastOfTail .evSampleStrobe = .pttRelease ∧ sequencerNext (draining 0) .evTimeTick = .ready :=
  ⟨fun _ h => (nomatch h), by decide, by decide, by decide, by decide, by decide, by decide, by decide, by decide⟩

/-- Each event bit set, and cleared, by some operation. -/
theorem test_witness_EventBitsAreSetAndClearedByTheirCauses :
    ((draining 0).evDone = false ∧ (after .evTimeTick (draining 0)).map (fun t => t.evDone) = some true) ∧
    (session.evErr = false ∧ (after .send session).map (fun t => t.evErr) = some true) ∧
    (after (.wrEvents 7) { loaded with evDone := true, evErr := true, evAccErr := true }).map (fun t => t.eventsWord) = some 0 := by decide

theorem test_witness_PttPinChangesAtSessionEdges :
    (after .send loaded).map (fun t => t.pttPin != loaded.pttPin) = some true ∧
    (after .evTimeTick (draining 0)).map (fun t => t.pttPin != (draining 0).pttPin) = some true ∧
    (after .evSinkFault session).map (fun t => t.pttPin != session.pttPin) = some true ∧
    (after .evReset session).map (fun t => t.pttPin != session.pttPin) = some true ∧
    (after (.wrCtrl 0) loaded).map (fun t => t.pttPin != loaded.pttPin) = some true := by decide

theorem test_witness_PhaseIsContinuous :
    (after .evSampleStrobe preamble).map (fun t => t.phaseAcc != preamble.phaseAcc) = some true ∧
    (after .evSampleStrobe lastOfPreamble).map (fun t => t.phaseInc != lastOfPreamble.phaseInc) = some true ∧
    (after .evTimeTick keyed).map (fun t => t.phaseInc != keyed.phaseInc) = some true := by decide

theorem test_witness_HostCannotDisturbASession : session.seqState ≠ .ready ∧ hostOperation (.wrBuf 0 0x55) :=
  ⟨by decide, trivial⟩

theorem test_witness_SamplesOnlyWhileKeyed :
    lastOfFrame.Consistent Config.block ∧ (∃ t, exec .evSampleStrobe lastOfFrame = .next t) ∧
    (answer .evSampleStrobe lastOfFrame).isSome = true := ⟨lastOfFrame_consistent, ⟨_, rfl⟩, by decide⟩

/-- A fresh framer with the shortest and with the longest body. -/
theorem test_witness_fresh_framer :
    (∀ l ∈ ([16, 328] : List (BitVec 9)), ({ session with latLen := l } : State).framerFresh ∧ 16 ≤ l.toNat ∧ l.toNat ≤ 328) := by
  intro l h
  refine ⟨session_fresh, ?_⟩
  revert l
  decide

theorem test_witness_NoSixOnesInFrame :
    framing.encState = .frame ∧ framing.ones.toNat ≤ 5 ∧ (pullBits 8 framing).2.encState = .frame := by decide +kernel

theorem test_witness_WaitsEndAtTheTickAfterTheLast :
    (session.seqState = .pttAssert ∧ session.latPre ≠ 0 ∧ 50 ≤ session.leadCnt.toNat) ∧ session.framerFresh ∧
    (draining 20).seqState = .pttRelease ∧ (draining 20).drained = true ∧ 20 ≤ (draining 20).trailCnt.toNat :=
  ⟨by decide, session_fresh, by decide, by decide, by decide⟩

theorem test_witness_AccumulatorAdvancesByTheIncrement :
    preamble.transmitting = true ∧ preamble.sampleIndex.toNat + 88 ≤ 88 ∧ preamble.sampleIndex.toNat + 87 < 88 := by decide

/-- The hypotheses of the whole session, at the least and at the greatest legal values. -/
theorem test_witness_CompleteSessionRunsItsTimeline :
    ∀ s ∈ ([{ loaded with preambleMs := 100, tailMs := 10, frameLen := 16 },
        { loaded with preambleMs := 1000, tailMs := 500, frameLen := 328 }] : List State),
      s.seqState = .ready ∧ 100 ≤ s.preambleMs.toNat ∧ s.preambleMs.toNat ≤ 1000 ∧ 10 ≤ s.tailMs.toNat ∧
      s.tailMs.toNat ≤ 500 ∧ 16 ≤ s.frameLen.toNat ∧ s.frameLen.toNat ≤ 328 := by decide +kernel

theorem test_witness_WindowMapsHostAddresses (B : Nat) :
    (B ≤ B ∧ B < B + 0x1000) ∧ (B ≤ B + 0xFFF ∧ B + 0xFFF < B + 0x1000) ∧ ¬ (B ≤ B + 0x1000 ∧ B + 0x1000 < B + 0x1000) := by omega

end Sys2Proof.Tests
end

section

namespace Sys2Proof.Proofs
open Sys2Proof Sys2Proof.Machine

/-- Settles O7: the arrival picks the branch of `step` that decodes (00_scope R16, 20_memory R111), and a decoding that
answers an instruction picks the branch that performs it. -/
theorem stepPerformsTheOldestArrival : Obligations.StepPerformsTheOldestArrival := by
  unfold Obligations.StepPerformsTheOldestArrival
  intro s o rest i arrival decoded
  simp only [step, arrival, decoded]

end Sys2Proof.Proofs
end

section
/-! What an operation can do to the block's state, said once, so that every invariant is a case analysis of `Effect`. -/

namespace Sys2Proof.Proofs
open Sys2Proof Sys2Proof.Machine

/-! ## The host's side of the state -/

/-- A state that differs from `s` only on the host's side: the frame buffer, the control, event and configuration registers,
and the model's own fields. The session (sequencer, framer, CRC, modulator, latches) is the one of `s`. -/
def HostOnly (s t : State) : Prop :=
  t = { s with
    buf := t.buf, pttPol := t.pttPol, nrziInit := t.nrziInit, ieDone := t.ieDone, ieErr := t.ieErr,
    evDone := t.evDone, evErr := t.evErr, evAccErr := t.evAccErr, errCode := t.errCode,
    frameLen := t.frameLen, preambleMs := t.preambleMs, tailMs := t.tailMs, pttLeadMs := t.pttLeadMs,
    pttTrailMs := t.pttTrailMs, inbox := t.inbox, response := t.response, draws := t.draws }

theorem hostOnly_respond (r : Response) (s : State) : HostOnly s (respond r s) := rfl

theorem hostOnly_inbox (rest : List Operation) (s : State) : HostOnly s { s with inbox := rest } := rfl

/-- What performing the instruction `i` in `s` can leave, with the condition under which it leaves it. -/
inductive Effect (P : Params) : Instr → State → State → Prop
  /-- The session, the buffer and its draw stay as they are. -/
  | host {i : Instr} {s t : State} (session : HostOnly s t) (buf : t.buf = s.buf) (draws : t.draws = s.draws) : Effect P i s t
  /-- 45_host_bus R376. -/
  | store {s : State} (k : BitVec 9) (w : Word) (inside : k.toNat < P.bodyMax) (ready : s.busy = false) :
      Effect P (.wrBuf k w) s (respond .none (s.storeBuf k.toNat (operandByte w)))
  /-- 40_crc R207. -/
  | crcFeed {s : State} (w : Word) (ready : s.busy = false) :
      Effect P (.wrCrcData w) s (respond .none { s with crc := crcByte s.crc (operandByte w) })
  /-- 40_crc R208. -/
  | crcInit {s : State} (ready : s.busy = false) : Effect P .crcInit s (respond .none { s with crc := 0xFFFF })
  /-- 44_ptt_sequencer R312. -/
  | start {s : State} (legalConfig : s.configLegal = true) (legalLength : s.lengthLegal P = true) (ready : s.busy = false) :
      Effect P .send s (respond .none (startSession s))
  /-- 44_ptt_sequencer R314. -/
  | cancel {s : State} (busy : s.busy = true) : Effect P .cancel s (respond .none { s with cancelPend := true })
  /-- 70_reset_and_hazards R440. -/
  | reset {s : State} : Effect P .evReset s (respond .none (resetBlock P s))
  /-- 43_afsk R290, inside a bit interval. -/
  | sample {s : State} (tx : s.transmitting = true) (inside : (oneSample P s).2.sampleIndex.toNat ≠ P.spb) :
      Effect P .evSampleStrobe s (respond (.sample (oneSample P s).1) (oneSample P s).2)
  /-- 43_afsk R290, at the end of a bit interval. -/
  | sampleAndLoad {s : State} (tx : s.transmitting = true) (last : (oneSample P s).2.sampleIndex.toNat = P.spb) :
      Effect P .evSampleStrobe s (loadBit P (respond (.sample (oneSample P s).1) (oneSample P s).2))
  /-- 44_ptt_sequencer R315, the lead wait is over. -/
  | leadEnd {s : State} (wait : s.seqState = .pttAssert) (elapsed : s.leadCnt = 0) :
      Effect P .evTimeTick s (respond .none (loadBit P s))
  /-- 44_ptt_sequencer R315, the lead wait counts. -/
  | lead {s : State} (wait : s.seqState = .pttAssert) (more : s.leadCnt ≠ 0) :
      Effect P .evTimeTick s (respond .none (countLead s))
  /-- 44_ptt_sequencer R320. -/
  | trailEnd {s : State} (wait : s.seqState = .pttRelease) (drained : s.drained = true) (elapsed : s.trailCnt = 0) :
      Effect P .evTimeTick s (respond .none (endSession s))
  /-- 44_ptt_sequencer R315, the trail wait counts. -/
  | trail {s : State} (wait : s.seqState = .pttRelease) (drained : s.drained = true) (more : s.trailCnt ≠ 0) :
      Effect P .evTimeTick s (respond .none (countTrail s))
  /-- 44_ptt_sequencer R318. -/
  | drain {s : State} (wait : s.seqState = .pttRelease) (undrained : s.drained = false) :
      Effect P .evSinkDrained s (respond .none (noteDrain s))
  /-- 44_ptt_sequencer R321. -/
  | abort {s : State} (busy : s.busy = true) : Effect P .evSinkFault s (respond .none (abortSession s))

/-! ## Each operation has one of these effects -/

theorem writeLockedCtrl_cases (w : Word) (s : State) :
    writeLockedCtrl w s = accErr s ∨
    writeLockedCtrl w s = { s with pttPol := operandPttPol w, nrziInit := operandNrziInit w } := by
  unfold writeLockedCtrl
  exact ite_eq_or_eq _ _ _

theorem execWrCtrl_effect {P : Params} {w : Word} {s t : State} (h : execWrCtrl w s = .next t) :
    Effect P (.wrCtrl w) s t := by
  cases h
  rcases writeLockedCtrl_cases w s with e | e <;> rw [e] <;> exact .host rfl rfl rfl

theorem execWrFrameLen_effect {P : Params} {w : Word} {s t : State} (h : execWrFrameLen w s = .next t) :
    Effect P (.wrFrameLen w) s t := by
  cases h
  rcases unlessBusy_cases (fun s => { s with frameLen := operandLen w }) s with ⟨_, e⟩ | ⟨_, e⟩ <;> rw [e] <;>
    exact .host rfl rfl rfl

theorem readBuf_effect (P : Params) (k : BitVec 9) (s : State) : Effect P (.rdBuf k) s (readBuf P k s) := by
  unfold readBuf
  split <;> exact .host rfl rfl rfl

theorem writeBuf_effect (P : Params) (k : BitVec 9) (w : Word) (s : State) :
    Effect P (.wrBuf k w) s (writeBuf P k w s) := by
  unfold writeBuf
  split
  · next inside =>
    rcases unlessBusy_cases (fun s => s.storeBuf k.toNat (operandByte w)) s with ⟨_, e⟩ | ⟨ready, e⟩ <;> rw [e]
    · exact .host rfl rfl rfl
    · exact .store k w inside ready
  · exact .host rfl rfl rfl

theorem execWrCrcData_effect {P : Params} {w : Word} {s t : State} (h : execWrCrcData w s = .next t) :
    Effect P (.wrCrcData w) s t := by
  cases h
  rcases unlessBusy_cases (fun s => { s with crc := crcByte s.crc (operandByte w) }) s with ⟨_, e⟩ | ⟨ready, e⟩ <;> rw [e]
  · exact .host rfl rfl rfl
  · exact .crcFeed w ready

theorem execCrcInit_effect {P : Params} {s t : State} (h : execCrcInit s = .next t) : Effect P .crcInit s t := by
  cases h
  split
  · exact .host rfl rfl rfl
  · next k => exact .crcInit (by simpa using k)

theorem execSendFor_effect {P : Params} {s t : State} (h : execSendFor P s = .next t) : Effect P .send s t := by
  cases h
  rcases sendCommand_cases P s with ⟨_, e⟩ | ⟨_, _, e⟩ | ⟨_, _, _, e⟩ | ⟨legalConfig, legalLength, ready, e⟩ <;> rw [e]
  · exact .host rfl rfl rfl
  · exact .host rfl rfl rfl
  · exact .host rfl rfl rfl
  · exact .start legalConfig legalLength ready

theorem execCancel_effect {P : Params} {s t : State} (h : execCancel s = .next t) : Effect P .cancel s t := by
  cases h
  split
  · next busy => exact .cancel busy
  · exact .host rfl rfl rfl

theorem sampleStrobe_effect (P : Params) (s : State) : Effect P .evSampleStrobe s (sampleStrobe P s) := by
  rcases sampleStrobe_cases P s with ⟨_, e⟩ | ⟨tx, inside, e⟩ | ⟨tx, last, e⟩ <;> rw [e]
  · exact .host rfl rfl rfl
  · exact .sample tx inside
  · exact .sampleAndLoad tx last

theorem execEvTimeTickFor_effect {P : Params} {s t : State} (h : execEvTimeTickFor P s = .next t) :
    Effect P .evTimeTick s t := by
  cases h
  rcases timeTick_cases P s with
    ⟨wait, elapsed, e⟩ | ⟨wait, more, e⟩ | ⟨wait, drained, elapsed, e⟩ | ⟨wait, drained, more, e⟩ | ⟨_, _, e⟩ <;> rw [e]
  · exact .leadEnd wait elapsed
  · exact .lead wait more
  · exact .trailEnd wait drained elapsed
  · exact .trail wait drained more
  · exact .host rfl rfl rfl

theorem execEvSinkDrained_effect {P : Params} {s t : State} (h : execEvSinkDrained s = .next t) :
    Effect P .evSinkDrained s t := by
  cases h
  split
  · next k => exact .drain k.1 k.2
  · exact .host rfl rfl rfl

theorem execEvSinkFault_effect {P : Params} {s t : State} (h : execEvSinkFault s = .next t) :
    Effect P .evSinkFault s t := by
  cases h
  split
  · next busy => exact .abort busy
  · exact .host rfl rfl rfl

/-- Every operation that is performed has one of the effects listed; the instructions not named here are reads, refused
writes and writes of the host's own registers. -/
theorem execFor_effect {P : Params} {i : Instr} {s t : State} (h : execFor P i s = .next t) : Effect P i s t := by
  cases i with
  | invalid => cases h
  | wrCtrl => exact execWrCtrl_effect h
  | wrFrameLen => exact execWrFrameLen_effect h
  | rdBuf k => cases h; exact readBuf_effect P k s
  | wrBuf k w => cases h; exact writeBuf_effect P k w s
  | wrCrcData => exact execWrCrcData_effect h
  | crcInit => exact execCrcInit_effect h
  | send => exact execSendFor_effect h
  | cancel => exact execCancel_effect h
  | evReset => cases h; exact .reset
  | evSampleStrobe => cases h; exact sampleStrobe_effect P s
  | evTimeTick => exact execEvTimeTickFor_effect h
  | evSinkDrained => exact execEvSinkDrained_effect h
  | evSinkFault => exact execEvSinkFault_effect h
  | _ => cases h; exact .host rfl rfl rfl

theorem exec_effect {i : Instr} {s t : State} (h : exec i s = .next t) : Effect Config.block i s t :=
  execFor_effect (execFor_block i s ▸ h)

/-- A predicate that sees nothing of the waiting arrivals and that every effect keeps is kept by every step. -/
theorem step_keeps {I : State → Prop} (pop : ∀ {s : State} (rest : List Operation), I s → I { s with inbox := rest })
    (keep : ∀ {i : Instr} {s t : State}, I s → Effect Config.block i s t → I t) {s t : State} (hs : I s)
    (h : step s = .next t) : I t := by
  rcases step_next h with ⟨_, rfl⟩ | ⟨o, rest, i, _, _, performed⟩
  · exact hs
  · exact keep (pop rest hs) (exec_effect performed)

end Sys2Proof.Proofs
end

section
/-! O41: the relations of 10_state R78 hold after reset and every effect keeps them. -/

namespace Sys2Proof.Proofs
open Sys2Proof Sys2Proof.Machine

variable {P : Params} {s t : State}

/-! ## `load_bit()` and the relations -/

theorem framerPhase_idle (h : (framerPhase s).encState = .idle) : s.encState = .idle := by
  unfold framerPhase at h
  rcases enterDone_cases (enterTail (enterFrame s)) with ⟨_, _, e⟩ | ⟨_, e⟩ <;> rw [e] at h
  · cases h
  · rcases enterTail_cases (enterFrame s) with ⟨_, _, _, f⟩ | ⟨_, f⟩ <;> rw [f] at h
    · cases h
    · rcases enterFrame_cases s with ⟨_, _, g⟩ | ⟨_, g⟩ <;> rw [g] at h
      · cases h
      · exact h

/-- 43_afsk R284, R285: `load_bit()` leaves a framer that is not idle in a phase and the sequencer in the state of its name. -/
theorem loadBit_phases (running : s.encState ≠ .idle) :
    ((loadBit P s).encState = .preamble ∧ (loadBit P s).seqState = .txPreamble) ∨
    ((loadBit P s).encState = .frame ∧ (loadBit P s).seqState = .txFrame) ∨
    ((loadBit P s).encState = .tail ∧ (loadBit P s).seqState = .txTail) ∨
    ((loadBit P s).encState = .done ∧ (loadBit P s).seqState = .pttRelease) := by
  have notIdle : (nextBit s).2.encState ≠ .idle := by
    rw [nextBit_encState]
    exact fun h => running (framerPhase_idle h)
  have ends := nextBit_end_iff s
  rcases loadBit_cases P s with ⟨out, e⟩ | ⟨b, out, e⟩ <;> rw [e] <;> rw [out] at ends
  · have done : (nextBit s).2.encState = .done := (ends.1 rfl).resolve_left notIdle
    exact .inr (.inr (.inr ⟨done, rfl⟩))
  · cases phase : (nextBit s).2.encState <;> simp_all [txStateOf]

theorem nextBit_ones_le_five (h : s.ones.toNat ≤ 5) : (nextBit s).2.ones.toNat ≤ 5 := by
  have phase : (framerPhase s).ones.toNat ≤ 5 := by
    rcases framerPhase_ones s with e | e <;> simp [e, h]
  rcases nextBit_cases s with ⟨_, e⟩ | ⟨_, e⟩ | ⟨_, _, e⟩ | ⟨_, notFive, e⟩ | ⟨_, e⟩ | ⟨_, e⟩ <;> rw [e]
  · exact phase
  · simpa using phase
  · simp [stuffedBitStep]
  · have below : (framerPhase s).ones.toNat ≠ 5 := fun k => notFive (BitVec.eq_of_toNat_eq k)
    simp only [frameBitStep, countOnes_ones, advanceBit_ones, feedCrc_ones]
    split
    · bv_omega
    · simp
  · simpa using phase
  · exact phase

theorem loadBit_undrained (h : s.drained = false) : (loadBit P s).drained = false := by
  have kept : (nextBit s).2.drained = false := (congrArg State.drained (nextBit_framerOnly s)).trans h
  rcases loadBit_cases P s with ⟨_, e⟩ | ⟨b, _, e⟩ <;> rw [e]
  · rfl
  · exact kept

@[simp] theorem loadBit_sampleIndex : (loadBit P s).sampleIndex = 0 := by
  rcases loadBit_cases P s with ⟨_, e⟩ | ⟨b, _, e⟩ <;> simp [e]

@[simp] theorem loadBit_ones : (loadBit P s).ones = (nextBit s).2.ones := by
  rcases loadBit_cases P s with ⟨_, e⟩ | ⟨b, _, e⟩ <;> simp [e]

/-- The relations of 10_state R78 as they stand where `load_bit()` is called: a session runs, both waits are over or not yet
begun, and the sample index may have reached the end of its interval. -/
structure LoadReady (s : State) : Prop where
  running : s.encState ≠ .idle
  keyed : s.pttAsserted = true
  undrained : s.drained = false
  leadOver : s.leadCnt = 0
  trailOver : s.trailCnt = 0
  ones : s.ones.toNat ≤ 5

theorem busy_iff : s.busy = true ↔ s.seqState ≠ .ready := by simp [State.busy]

theorem encState_ne_idle_of_busy (h : s.Consistent P) (busy : s.busy = true) : s.encState ≠ .idle := by
  intro idle
  have agree := h.phases
  rw [idle] at agree
  cases seq : s.seqState <;> simp_all [phasesAgree, busy_iff]

/-- During the lead wait and while samples are put out no drain has been reported. -/
theorem undrained_of_ne_release (h : s.Consistent P) (seq : s.seqState ≠ .pttRelease) : s.drained = false := by
  cases d : s.drained
  · rfl
  · exact absurd (h.drained_in_release d) seq

theorem trailCnt_of_undrained (h : s.Consistent P) (undrained : s.drained = false) : s.trailCnt = 0 := by
  by_contra k
  exact absurd (h.trail_after_drain k).2 (by simp [undrained])

theorem leadCnt_of_ne_assert (h : s.Consistent P) (seq : s.seqState ≠ .pttAssert) : s.leadCnt = 0 := by
  by_contra k
  exact seq (h.lead_in_assert k)

theorem loadReady (h : s.Consistent P) (busy : s.busy = true) (lead : s.leadCnt = 0)
    (notRelease : s.seqState ≠ .pttRelease) : LoadReady s :=
  have undrained := undrained_of_ne_release h notRelease
  { running := encState_ne_idle_of_busy h busy
    keyed := h.keyed_iff_busy.trans busy
    undrained := undrained
    leadOver := lead
    trailOver := trailCnt_of_undrained h undrained
    ones := h.ones_at_most_five }

theorem transmitting_iff :
    s.transmitting = true ↔ s.seqState = .txPreamble ∨ s.seqState = .txFrame ∨ s.seqState = .txTail := by
  simp [State.transmitting, or_assoc]

theorem loadReady_of_transmitting (h : s.Consistent P) (tx : s.transmitting = true) : LoadReady s := by
  have states := transmitting_iff.1 tx
  refine loadReady h (busy_iff.2 ?_) (leadCnt_of_ne_assert h ?_) ?_ <;>
    rcases states with e | e | e <;> simp [e]

theorem loadReady_of_leadEnd (h : s.Consistent P) (wait : s.seqState = .pttAssert) (elapsed : s.leadCnt = 0) :
    LoadReady s :=
  loadReady h (busy_iff.2 (by simp [wait])) elapsed (by simp [wait])

theorem loadBit_consistent (h : LoadReady s) (spb : 0 < P.spb) : (loadBit P s).Consistent P := by
  have only := loadBit_loadOnly P s
  have lead : (loadBit P s).leadCnt = 0 := (congrArg State.leadCnt only).trans h.leadOver
  have trail : (loadBit P s).trailCnt = 0 := (congrArg State.trailCnt only).trans h.trailOver
  have keyed : (loadBit P s).pttAsserted = true := (congrArg State.pttAsserted only).trans h.keyed
  have phases := loadBit_phases (P := P) h.running
  have busy : (loadBit P s).busy = true := by
    rw [busy_iff]
    rcases phases with ⟨_, q⟩ | ⟨_, q⟩ | ⟨_, q⟩ | ⟨_, q⟩ <;> simp [q]
  exact
    { phases := by rcases phases with ⟨e, q⟩ | ⟨e, q⟩ | ⟨e, q⟩ | ⟨e, q⟩ <;> simp [e, q, phasesAgree]
      drained_in_release := by simp [loadBit_undrained h.undrained]
      cancel_while_busy := fun _ => busy
      keyed_iff_busy := keyed.trans busy.symm
      lead_in_assert := by simp [lead]
      trail_after_drain := by simp [trail]
      ones_at_most_five := loadBit_ones ▸ nextBit_ones_le_five h.ones
      sample_in_bit := by simpa using spb }

/-! ## The other effects -/

theorem resetFor_consistent (spb : 0 < P.spb) : (State.resetFor P).Consistent P where
  phases := rfl
  drained_in_release := nofun
  cancel_while_busy := nofun
  keyed_iff_busy := rfl
  lead_in_assert := fun h => absurd rfl h
  trail_after_drain := fun h => absurd rfl h
  ones_at_most_five := Nat.zero_le 5
  sample_in_bit := spb

/-- The relations are about the session alone. -/
theorem consistent_of_hostOnly (h : s.Consistent P) (k : HostOnly s t) : t.Consistent P := by
  rw [k]
  exact ⟨h.phases, h.drained_in_release, h.cancel_while_busy, h.keyed_iff_busy, h.lead_in_assert, h.trail_after_drain,
    h.ones_at_most_five, h.sample_in_bit⟩

theorem startSession_consistent (spb : 0 < P.spb) : (startSession s).Consistent P where
  phases := rfl
  drained_in_release := nofun
  cancel_while_busy := fun _ => rfl
  keyed_iff_busy := rfl
  lead_in_assert := fun _ => rfl
  trail_after_drain := fun k => absurd rfl k
  ones_at_most_five := Nat.zero_le 5
  sample_in_bit := spb

/-- Both ends of a session leave a state that meets the relations once both counters are 0. -/
theorem releaseTransmitter_consistent (lead : s.leadCnt = 0) (trail : s.trailCnt = 0) (ones : s.ones.toNat ≤ 5)
    (sample : s.sampleIndex.toNat < P.spb) : (releaseTransmitter s).Consistent P where
  phases := rfl
  drained_in_release := nofun
  cancel_while_busy := nofun
  keyed_iff_busy := rfl
  lead_in_assert := fun k => absurd lead k
  trail_after_drain := fun k => absurd trail k
  ones_at_most_five := ones
  sample_in_bit := sample

theorem sample_consistent (h : s.Consistent P) (spb : P.spb ≤ 127)
    (inside : (oneSample P s).2.sampleIndex.toNat ≠ P.spb) : (oneSample P s).2.Consistent P := by
  have below := h.sample_in_bit
  have next : (oneSample P s).2.sampleIndex.toNat = s.sampleIndex.toNat + 1 := by
    show (s.sampleIndex + 1).toNat = s.sampleIndex.toNat + 1
    bv_omega
  exact ⟨h.phases, h.drained_in_release, h.cancel_while_busy, h.keyed_iff_busy, h.lead_in_assert, h.trail_after_drain,
    h.ones_at_most_five, by omega⟩

theorem countLead_consistent (h : s.Consistent P) (wait : s.seqState = .pttAssert) : (countLead s).Consistent P :=
  ⟨h.phases, h.drained_in_release, h.cancel_while_busy, h.keyed_iff_busy, fun _ => wait, h.trail_after_drain,
    h.ones_at_most_five, h.sample_in_bit⟩

theorem countTrail_consistent (h : s.Consistent P) (wait : s.seqState = .pttRelease) (drained : s.drained = true) :
    (countTrail s).Consistent P :=
  ⟨h.phases, h.drained_in_release, h.cancel_while_busy, h.keyed_iff_busy, h.lead_in_assert, fun _ => ⟨wait, drained⟩,
    h.ones_at_most_five, h.sample_in_bit⟩

theorem noteDrain_consistent (h : s.Consistent P) (wait : s.seqState = .pttRelease) : (noteDrain s).Consistent P :=
  ⟨h.phases, fun _ => wait, h.cancel_while_busy, h.keyed_iff_busy, h.lead_in_assert, fun _ => ⟨wait, rfl⟩,
    h.ones_at_most_five, h.sample_in_bit⟩

theorem cancel_consistent (h : s.Consistent P) (busy : s.busy = true) :
    State.Consistent P { s with cancelPend := true } :=
  ⟨h.phases, h.drained_in_release, fun _ => busy, h.keyed_iff_busy, h.lead_in_assert, h.trail_after_drain,
    h.ones_at_most_five, h.sample_in_bit⟩

theorem crc_consistent (h : s.Consistent P) (c : Half) : State.Consistent P { s with crc := c } :=
  ⟨h.phases, h.drained_in_release, h.cancel_while_busy, h.keyed_iff_busy, h.lead_in_assert, h.trail_after_drain,
    h.ones_at_most_five, h.sample_in_bit⟩

theorem respond_consistent (h : s.Consistent P) (r : Response) : (respond r s).Consistent P :=
  consistent_of_hostOnly h (hostOnly_respond r s)

/-- A sample changes nothing that `LoadReady` speaks of. -/
theorem loadReady_sample (h : LoadReady s) (r : Response) : LoadReady (respond r (oneSample P s).2) :=
  ⟨h.running, h.keyed, h.undrained, h.leadOver, h.trailOver, h.ones⟩

/-- 10_state R78, R79: every effect keeps the relations. -/
theorem effect_consistent {i : Instr} (pos : 0 < P.spb) (small : P.spb ≤ 127) (h : s.Consistent P)
    (e : Effect P i s t) : t.Consistent P := by
  cases e with
  | host session => exact consistent_of_hostOnly h session
  | store => exact consistent_of_hostOnly h rfl
  | crcFeed => exact respond_consistent (crc_consistent h _) _
  | crcInit => exact respond_consistent (crc_consistent h _) _
  | start => exact respond_consistent (startSession_consistent pos) _
  | cancel busy => exact respond_consistent (cancel_consistent h busy) _
  | reset => exact consistent_of_hostOnly (resetFor_consistent pos) rfl
  | sample _ inside => exact respond_consistent (sample_consistent h small inside) _
  | sampleAndLoad tx => exact loadBit_consistent (loadReady_sample (loadReady_of_transmitting h tx) _) pos
  | leadEnd wait elapsed => exact respond_consistent (loadBit_consistent (loadReady_of_leadEnd h wait elapsed) pos) _
  | lead wait => exact respond_consistent (countLead_consistent h wait) _
  | trailEnd wait _ elapsed =>
    have lead := leadCnt_of_ne_assert h (by simp [wait])
    exact consistent_of_hostOnly
      (releaseTransmitter_consistent lead elapsed h.ones_at_most_five h.sample_in_bit) rfl
  | trail wait drained => exact respond_consistent (countTrail_consistent h wait drained) _
  | drain wait => exact respond_consistent (noteDrain_consistent h wait) _
  | abort =>
    exact consistent_of_hostOnly
      (releaseTransmitter_consistent (s := { s with leadCnt := 0, trailCnt := 0 }) rfl rfl h.ones_at_most_five
        h.sample_in_bit) rfl

/-- Settles O41: reset meets the relations, and by cases on the effect of the operation performed every step keeps them. -/
theorem sequencerFramerRelationsAreKept : Obligations.SequencerFramerRelationsAreKept := by
  unfold Obligations.SequencerFramerRelationsAreKept
  obtain ⟨pos, small, -⟩ := block_wf
  refine ⟨resetFor_consistent pos, fun s t h stepped => ?_⟩
  exact step_keeps (fun rest k => consistent_of_hostOnly k (hostOnly_inbox rest _)) (effect_consistent pos small) h stepped

end Sys2Proof.Proofs
end

section
/-! O42: the ranges of 10_state R39, R41, R43 and R49 are kept by every effect. -/

namespace Sys2Proof.Proofs
open Sys2Proof Sys2Proof.Machine

variable {P : Params} {s t : State}

/-! ## The framer's position -/

/-- The ranges of the framer's own counters, with the two latches that `next_bit()` compares and loads them with. -/
structure FramerInRange (P : Params) (s : State) : Prop where
  flags : s.flagsLeft.toNat ≤ 150
  bytes : s.byteIdx.toNat ≤ P.bodyMax + 2
  bytes_of_frame : s.encState = .frame → s.byteIdx.toNat ≤ s.latLen.toNat + 2
  body : s.latLen.toNat ≤ P.bodyMax
  tail : s.latTail.toNat ≤ 75

theorem enterFrame_inRange (h : FramerInRange P s) : FramerInRange P (enterFrame s) := by
  rcases enterFrame_cases s with ⟨_, _, e⟩ | ⟨_, e⟩ <;> rw [e]
  · exact ⟨h.flags, Nat.zero_le _, fun _ => Nat.zero_le _, h.body, h.tail⟩
  · exact h

theorem enterTail_inRange (h : FramerInRange P s) : FramerInRange P (enterTail s) := by
  rcases enterTail_cases s with ⟨_, _, _, e⟩ | ⟨_, e⟩ <;> rw [e]
  · exact ⟨h.tail.trans (by decide), h.bytes, nofun, h.body, h.tail⟩
  · exact h

theorem enterDone_inRange (h : FramerInRange P s) : FramerInRange P (enterDone s) := by
  rcases enterDone_cases s with ⟨_, _, e⟩ | ⟨_, e⟩ <;> rw [e]
  · exact ⟨h.flags, h.bytes, nofun, h.body, h.tail⟩
  · exact h

theorem framerPhase_inRange (h : FramerInRange P s) : FramerInRange P (framerPhase s) :=
  enterDone_inRange (enterTail_inRange (enterFrame_inRange h))

/-- After the phase tests a framer in PREAMBLE has a flag left: the first test moves it on otherwise. -/
theorem framerPhase_preamble_flags (h : (framerPhase s).encState = .preamble) : (framerPhase s).flagsLeft ≠ 0 := by
  unfold framerPhase at h ⊢
  rcases enterDone_cases (enterTail (enterFrame s)) with ⟨_, _, e⟩ | ⟨_, e⟩ <;> rw [e] at h ⊢
  · cases h
  · rcases enterTail_cases (enterFrame s) with ⟨_, _, _, f⟩ | ⟨_, f⟩ <;> rw [f] at h ⊢
    · cases h
    · rcases enterFrame_cases s with ⟨_, _, g⟩ | ⟨more, g⟩ <;> rw [g] at h ⊢
      · cases h
      · exact fun noFlags => more ⟨h, noFlags⟩

/-- After the phase tests a framer in TAIL has a flag left: the third test moves it on otherwise. -/
theorem framerPhase_tail_flags (h : (framerPhase s).encState = .tail) : (framerPhase s).flagsLeft ≠ 0 := by
  unfold framerPhase at h ⊢
  rcases enterDone_cases (enterTail (enterFrame s)) with ⟨_, _, e⟩ | ⟨more, e⟩ <;> rw [e] at h ⊢
  · cases h
  · exact fun noFlags => more ⟨h, noFlags⟩

/-- After the phase tests a framer in FRAME with no stuffed 0 due is not past the frame: the second test moves it on
otherwise. -/
theorem framerPhase_frame_bytes (h : (framerPhase s).encState = .frame) (ones : (framerPhase s).ones ≠ 5) :
    (framerPhase s).byteIdx.toNat ≠ (framerPhase s).latLen.toNat + 2 := by
  unfold framerPhase at h ones ⊢
  rcases enterDone_cases (enterTail (enterFrame s)) with ⟨_, _, e⟩ | ⟨_, e⟩ <;> rw [e] at h ones ⊢
  · cases h
  · rcases enterTail_cases (enterFrame s) with ⟨_, _, _, f⟩ | ⟨more, f⟩ <;> rw [f] at h ones ⊢
    · cases h
    · exact fun last => more ⟨h, ones, last⟩

theorem flagBitStep_inRange (h : FramerInRange P s) (more : s.flagsLeft ≠ 0) :
    FramerInRange P (flagBitStep s).2 := by
  unfold flagBitStep
  dsimp only
  split
  · have pos : s.flagsLeft.toNat ≠ 0 := fun k => more (BitVec.eq_of_toNat_eq k)
    have flags := h.flags
    have fewer : (s.flagsLeft - 1).toNat ≤ 150 := by bv_omega
    exact ⟨fewer, h.bytes, h.bytes_of_frame, h.body, h.tail⟩
  · exact ⟨h.flags, h.bytes, h.bytes_of_frame, h.body, h.tail⟩

theorem stuffedBitStep_inRange (h : FramerInRange P s) : FramerInRange P (stuffedBitStep s).2 :=
  ⟨h.flags, h.bytes, h.bytes_of_frame, h.body, h.tail⟩

@[simp] theorem advanceBit_byteIdx :
    (advanceBit s).byteIdx = if s.bitPos = 7 then s.byteIdx + 1 else s.byteIdx := by
  unfold advanceBit
  split
  · split <;> rfl
  · rfl

@[simp] theorem feedCrc_byteIdx (b : Bool) : (feedCrc b s).byteIdx = s.byteIdx := by
  unfold feedCrc
  split <;> rfl

@[simp] theorem feedCrc_bitPos (b : Bool) : (feedCrc b s).bitPos = s.bitPos := by
  unfold feedCrc
  split <;> rfl

@[simp] theorem frameBitStep_byteIdx :
    (frameBitStep s).2.byteIdx = if s.bitPos = 7 then s.byteIdx + 1 else s.byteIdx := by
  simp [frameBitStep]

@[simp] theorem advanceBit_flagsLeft : (advanceBit s).flagsLeft = s.flagsLeft := by
  unfold advanceBit
  split
  · split <;> rfl
  · rfl

@[simp] theorem feedCrc_flagsLeft (b : Bool) : (feedCrc b s).flagsLeft = s.flagsLeft := by
  unfold feedCrc
  split <;> rfl

@[simp] theorem frameBitStep_flagsLeft : (frameBitStep s).2.flagsLeft = s.flagsLeft := by
  simp [frameBitStep]

theorem frameBitStep_inRange (h : FramerInRange P s) (small : P.bodyMax ≤ 509) (frame : s.encState = .frame)
    (notLast : s.byteIdx.toNat ≠ s.latLen.toNat + 2) : FramerInRange P (frameBitStep s).2 := by
  have only := frameBitStep_framerOnly s
  have len : (frameBitStep s).2.latLen = s.latLen := (congrArg State.latLen only).trans rfl
  have tail : (frameBitStep s).2.latTail = s.latTail := (congrArg State.latTail only).trans rfl
  have before := h.bytes_of_frame frame
  have body := h.body
  have bytes : (frameBitStep s).2.byteIdx.toNat ≤ s.latLen.toNat + 2 := by
    rw [frameBitStep_byteIdx]
    split
    · bv_omega
    · exact before
  exact ⟨frameBitStep_flagsLeft.symm ▸ h.flags, by omega, fun _ => len ▸ bytes, len ▸ h.body, tail ▸ h.tail⟩

/-- `next_bit()` keeps the ranges of the framer's counters. -/
theorem nextBit_inRange (h : FramerInRange P s) (small : P.bodyMax ≤ 509) : FramerInRange P (nextBit s).2 := by
  have tested := framerPhase_inRange h
  rcases nextBit_cases s with ⟨_, e⟩ | ⟨phase, e⟩ | ⟨_, _, e⟩ | ⟨phase, ones, e⟩ | ⟨phase, e⟩ | ⟨_, e⟩ <;> rw [e]
  · exact tested
  · exact flagBitStep_inRange tested (framerPhase_preamble_flags phase)
  · exact stuffedBitStep_inRange tested
  · exact frameBitStep_inRange tested small phase (framerPhase_frame_bytes phase ones)
  · exact flagBitStep_inRange tested (framerPhase_tail_flags phase)
  · exact tested

/-! ## `load_bit()` and the ranges -/

theorem toneIncrement_cases (x : Tone) : toneIncrement P x = P.dmark ∨ toneIncrement P x = P.dspace := by
  cases x
  · exact .inl rfl
  · exact .inr rfl

theorem loadBit_phaseInc (h : s.phaseInc = P.dmark ∨ s.phaseInc = P.dspace) :
    (loadBit P s).phaseInc = P.dmark ∨ (loadBit P s).phaseInc = P.dspace := by
  have kept := congrArg State.phaseInc (nextBit_framerOnly s)
  rcases loadBit_cases P s with ⟨_, e⟩ | ⟨b, _, e⟩ <;> rw [e]
  · exact kept ▸ h
  · exact toneIncrement_cases _

theorem enterRelease_framerInRange (h : FramerInRange P s) :
    FramerInRange P (enterRelease { s with sampleIndex := 0 }) :=
  ⟨h.flags, h.bytes, h.bytes_of_frame, h.body, h.tail⟩

theorem modulateBit_framerInRange (h : FramerInRange P s) (b : Bool) :
    FramerInRange P (modulateBit P b { s with sampleIndex := 0 }) :=
  ⟨h.flags, h.bytes, h.bytes_of_frame, h.body, h.tail⟩

/-- The framer's counters after `load_bit()` are those `next_bit()` leaves. -/
theorem loadBit_framerInRange (h : FramerInRange P s) (small : P.bodyMax ≤ 509) : FramerInRange P (loadBit P s) := by
  have moved := nextBit_inRange h small
  rcases loadBit_cases P s with ⟨_, e⟩ | ⟨b, _, e⟩ <;> rw [e]
  · exact enterRelease_framerInRange moved
  · exact modulateBit_framerInRange moved b

theorem framerInRange (h : s.InRange P) (busy : s.busy = true) : FramerInRange P s :=
  ⟨h.flags, h.bytes, h.bytes_of_frame, (h.body busy).2, (h.tail busy).2⟩

theorem loadBit_inRange (h : s.InRange P) (small : P.bodyMax ≤ 509) (busy : s.busy = true)
    (running : s.encState ≠ .idle) : (loadBit P s).InRange P := by
  have only := loadBit_loadOnly P s
  have len : (loadBit P s).latLen = s.latLen := (congrArg State.latLen only).trans rfl
  have pre : (loadBit P s).latPre = s.latPre := (congrArg State.latPre only).trans rfl
  have tail : (loadBit P s).latTail = s.latTail := (congrArg State.latTail only).trans rfl
  have framer := loadBit_framerInRange (framerInRange h busy) small
  exact
    { flags := framer.flags
      bytes := framer.bytes
      bytes_of_frame := framer.bytes_of_frame
      body := fun _ => len ▸ h.body busy
      preamble := fun _ => pre ▸ h.preamble busy
      tail := fun _ => tail ▸ h.tail busy
      fresh := fun assert => by
        rcases loadBit_phases (P := P) running with ⟨_, q⟩ | ⟨_, q⟩ | ⟨_, q⟩ | ⟨_, q⟩ <;> simp [q] at assert
      increment := loadBit_phaseInc h.increment }

/-! ## A session begins -/

theorem configLegal_iff : s.configLegal = true ↔
    (100 ≤ s.preambleMs.toNat ∧ s.preambleMs.toNat ≤ 1000) ∧ (10 ≤ s.tailMs.toNat ∧ s.tailMs.toNat ≤ 500) := by
  simp only [State.configLegal, Bool.and_eq_true, decide_eq_true_eq]
  exact Iff.rfl

theorem lengthLegal_iff : s.lengthLegal P = true ↔ P.bodyMin ≤ s.frameLen.toNat ∧ s.frameLen.toNat ≤ P.bodyMax := by
  simp [State.lengthLegal]

/-- 41_hdlc_framer R232: the preamble flags of a legal configuration. -/
theorem nflags_preamble {ms : Nat} (h : 100 ≤ ms ∧ ms ≤ 1000) : 15 ≤ nflags ms ∧ nflags ms ≤ 150 := by
  unfold nflags flagBits ceilDiv
  omega

/-- 41_hdlc_framer R232: the tail flags of a legal configuration. -/
theorem nflags_tail {ms : Nat} (h : 10 ≤ ms ∧ ms ≤ 500) : 2 ≤ nflags ms ∧ nflags ms ≤ 75 := by
  unfold nflags flagBits ceilDiv
  omega

/-- A flag count of a legal configuration fits its 8-bit latch. -/
theorem toNat_flagLatch {n : Nat} (h : n ≤ 150) : (BitVec.ofNat 8 n).toNat = n := by
  rw [BitVec.toNat_ofNat]
  omega

theorem startSession_inRange (h : s.InRange P) (legalConfig : s.configLegal = true)
    (legalLength : s.lengthLegal P = true) : (startSession s).InRange P := by
  obtain ⟨preambleMs, tailMs⟩ := configLegal_iff.1 legalConfig
  have pre := nflags_preamble preambleMs
  have tail := nflags_tail tailMs
  have latPre : (startSession s).latPre.toNat = nflags s.preambleMs.toNat := toNat_flagLatch pre.2
  have latTail : (startSession s).latTail.toNat = nflags s.tailMs.toNat := toNat_flagLatch (by omega)
  exact
    { flags := latPre.trans_le pre.2
      bytes := Nat.zero_le _
      bytes_of_frame := nofun
      body := fun _ => lengthLegal_iff.1 legalLength
      preamble := fun _ => latPre ▸ pre
      tail := fun _ => latTail ▸ tail
      fresh := fun _ => ⟨rfl, rfl, rfl, rfl, rfl, rfl⟩
      increment := h.increment }

/-! ## The other effects -/

theorem resetFor_inRange : (State.resetFor P).InRange P where
  flags := Nat.zero_le _
  bytes := Nat.zero_le _
  bytes_of_frame := nofun
  body := nofun
  preamble := nofun
  tail := nofun
  fresh := nofun
  increment := .inl rfl

/-- The ranges are about the session alone. -/
theorem inRange_of_hostOnly (h : s.InRange P) (k : HostOnly s t) : t.InRange P := by
  rw [k]
  exact ⟨h.flags, h.bytes, h.bytes_of_frame, h.body, h.preamble, h.tail, h.fresh, h.increment⟩

theorem respond_inRange (h : s.InRange P) (r : Response) : (respond r s).InRange P :=
  inRange_of_hostOnly h (hostOnly_respond r s)

/-- The waits, the cancel request and the sample counters have no part in the ranges. -/
theorem counters_inRange (h : s.InRange P) {drained cancel : Bool} {lead trail acc : Half} {index : BitVec 7} {count : Word} :
    State.InRange P { s with
      drained := drained, cancelPend := cancel, leadCnt := lead, trailCnt := trail, phaseAcc := acc,
      sampleIndex := index, sampleCount := count } :=
  ⟨h.flags, h.bytes, h.bytes_of_frame, h.body, h.preamble, h.tail, h.fresh, h.increment⟩

/-- The host writes the CRC register in READY only, where the framer need not be fresh. -/
theorem crc_inRange (h : s.InRange P) (ready : s.busy = false) (c : Half) : State.InRange P { s with crc := c } :=
  have notAssert : s.seqState ≠ .pttAssert := fun k => by simp [State.busy, k] at ready
  ⟨h.flags, h.bytes, h.bytes_of_frame, h.body, h.preamble, h.tail, fun k => absurd k notAssert, h.increment⟩

theorem releaseTransmitter_inRange (h : s.InRange P) : (releaseTransmitter s).InRange P :=
  ⟨h.flags, h.bytes, nofun, nofun, nofun, nofun, nofun, h.increment⟩

/-- Every effect keeps the ranges, from a state that meets the relations of 10_state R78 too. -/
theorem effect_inRange {i : Instr} (small : P.bodyMax ≤ 509) (relations : s.Consistent P) (h : s.InRange P)
    (e : Effect P i s t) : t.InRange P := by
  cases e with
  | host session => exact inRange_of_hostOnly h session
  | store => exact inRange_of_hostOnly h rfl
  | crcFeed _ ready => exact respond_inRange (crc_inRange h ready _) _
  | crcInit ready => exact respond_inRange (crc_inRange h ready _) _
  | start legalConfig legalLength => exact respond_inRange (startSession_inRange h legalConfig legalLength) _
  | cancel => exact respond_inRange (counters_inRange h) _
  | reset => exact inRange_of_hostOnly resetFor_inRange rfl
  | sample => exact respond_inRange (counters_inRange h) _
  | sampleAndLoad tx =>
    have ready := loadReady_of_transmitting relations tx
    have busy : s.busy = true := relations.keyed_iff_busy.symm.trans ready.keyed
    exact loadBit_inRange (respond_inRange (counters_inRange h) _) small busy ready.running
  | leadEnd wait elapsed =>
    have ready := loadReady_of_leadEnd relations wait elapsed
    have busy : s.busy = true := relations.keyed_iff_busy.symm.trans ready.keyed
    exact respond_inRange (loadBit_inRange h small busy ready.running) _
  | lead => exact respond_inRange (counters_inRange h) _
  | trailEnd => exact inRange_of_hostOnly (releaseTransmitter_inRange h) rfl
  | trail => exact respond_inRange (counters_inRange h) _
  | drain => exact respond_inRange (counters_inRange h) _
  | abort => exact inRange_of_hostOnly (counters_inRange (releaseTransmitter_inRange h)) rfl

/-- Settles O42, by cases on the effect of the operation performed; the relations say that a session runs, and so that its
latches are in range, where a bit is loaded. -/
theorem rangesAreKept : Obligations.RangesAreKept := by
  unfold Obligations.RangesAreKept
  intro s t relations ranges stepped
  rcases step_next stepped with ⟨_, rfl⟩ | ⟨o, rest, i, _, _, performed⟩
  · exact ranges
  · have pop := hostOnly_inbox rest s
    exact effect_inRange (by decide) (consistent_of_hostOnly relations pop) (inRange_of_hostOnly ranges pop)
      (exec_effect performed)

end Sys2Proof.Proofs
end

section
/-! O43, O40: the frame buffer stays in canonical form, and the state after reset is safe. -/

namespace Sys2Proof.Proofs
open Sys2Proof Sys2Proof.Machine

variable {P : Params} {s t : State}

/-- `load_bit()` leaves the frame buffer alone. -/
@[simp] theorem loadBit_buf : (loadBit P s).buf = s.buf := by
  have only := congrArg State.buf (loadBit_loadOnly P s)
  exact only

/-- Only a buffer write at an index that exists and RESET touch the frame buffer, and both keep its canonical form. -/
theorem effect_bufWf {i : Instr} (h : Memory.wf P s.buf) (e : Effect P i s t) : Memory.wf P t.buf := by
  cases e with
  | host _ buf => exact buf ▸ h
  | store k w inside => exact store_wf _ h inside
  | reset => exact reset_buf_wf P
  | sampleAndLoad => rw [loadBit_buf]; exact h
  | leadEnd => rw [respond_buf, loadBit_buf]; exact h
  | _ => exact h

/-- Settles O43, by cases on the effect of the operation performed. -/
theorem bufferStaysCanonical : Obligations.BufferStaysCanonical := by
  unfold Obligations.BufferStaysCanonical
  intro s t h stepped
  exact step_keeps (I := fun s => Memory.wf Config.block s.buf) (fun _ k => k) effect_bufWf h stepped

/-- Settles O40: relations, ranges and canonical form, each by its lemma about reset. -/
theorem resetStateIsSafe : Obligations.ResetStateIsSafe := by
  unfold Obligations.ResetStateIsSafe
  exact ⟨resetFor_consistent block_wf.1, resetFor_inRange, reset_buf_wf Config.block⟩

end Sys2Proof.Proofs
end

section
/-! O59: the register window in the host's address map (20_memory R101). -/

namespace Sys2Proof.Proofs
open Sys2Proof Sys2Proof.Machine

variable {P : Params} {A : Nat}

/-- In the window, the offset is the distance from BASE, which 12 bits hold. -/
theorem windowOffset_of_inside (inside : P.base ≤ A ∧ A < P.base + 0x1000) :
    ∃ off : Offset, off.toNat = A - P.base ∧ windowOffset P A = some off := by
  have fits : A - P.base < 2 ^ 12 := by omega
  exact ⟨BitVec.ofNat 12 (A - P.base), (BitVec.toNat_ofNat _ 12).trans (Nat.mod_eq_of_lt fits), if_pos inside⟩

theorem windowOffset_of_outside (outside : ¬ (P.base ≤ A ∧ A < P.base + 0x1000)) : windowOffset P A = none :=
  if_neg outside

/-- Settles O59: BASE is aligned as in every well-formed parameter set; inside the window, the access is the READ or WRITE
of the offset found, and outside there is no offset to access. -/
theorem windowMapsHostAddresses : Obligations.WindowMapsHostAddresses := by
  unfold Obligations.WindowMapsHostAddresses
  obtain ⟨-, -, -, -, -, aligned⟩ := block_wf
  refine ⟨aligned, fun A v => ⟨fun inside => ?_, fun outside => ?_⟩⟩
  · obtain ⟨off, distance, found⟩ := windowOffset_of_inside inside
    exact ⟨off, distance, by rw [memRead, found]; rfl, by rw [memWrite, found]; rfl⟩
  · have absent := windowOffset_of_outside outside
    exact ⟨by rw [memRead, absent]; rfl, by rw [memWrite, absent]; rfl⟩

end Sys2Proof.Proofs
end

section
/-! What an offset names (30_encoding R144): each kind of slot, said as a condition on the offset alone. -/

namespace Sys2Proof.Proofs
open Sys2Proof Sys2Proof.Machine

variable {P : Params} {off : Offset}

/-! ## Offsets as numbers -/

theorem toNat_offsetIndex (off : Offset) : (offsetIndex off).toNat = off.toNat / 4 % 512 := by
  simp [offsetIndex, Nat.shiftRight_eq_div_pow]

theorem toNat_bufOffset (k : BitVec 9) : (bufOffset k).toNat = 0x800 + 4 * k.toNat := by
  have inside : k.toNat * 4 < 2 ^ 11 := by omega
  have shifted : k.toNat * 4 % 4096 = k.toNat * 4 := by omega
  simp [bufOffset, Nat.shiftLeft_eq, shifted]
  have disjoint : 2048 + k.toNat * 4 = 2048 ||| k.toNat * 4 := Nat.two_pow_add_eq_or_of_lt inside 1
  omega

theorem getLsbD_top_iff (off : Offset) : off.getLsbD 11 = true ↔ 0x800 ≤ off.toNat := by
  have := off.isLt
  simp [BitVec.getLsbD, Nat.testBit, Nat.shiftRight_eq_div_pow]
  omega

/-- An aligned offset in the upper half is the offset of the buffer slot of its index. -/
theorem bufOffset_offsetIndex (aligned : off.toNat % 4 = 0) (high : 0x800 ≤ off.toNat) :
    bufOffset (offsetIndex off) = off := by
  apply BitVec.eq_of_toNat_eq
  rw [toNat_bufOffset, toNat_offsetIndex]
  omega

/-! ## The registers -/

theorem regAt_offset (r : Reg) : Reg.at? r.offset = some r := by cases r <;> rfl

theorem offset_of_regAt {r : Reg} (found : Reg.at? off = some r) : off = r.offset := by
  unfold Reg.at? at found
  have matched := List.find?_some found
  exact (eq_of_beq matched).symm

/-- The registers fill the aligned offsets below 0x048 (10_state R57). -/
theorem toNat_regOffset (r : Reg) : r.offset.toNat % 4 = 0 ∧ r.offset.toNat < 0x048 := by cases r <;> decide

theorem exists_reg_of_lt (aligned : off.toNat % 4 = 0) (low : off.toNat < 0x048) : ∃ r : Reg, off = r.offset := by
  have registers : ∀ k : Fin 18, ∃ r ∈ Reg.all, r.offset.toNat = 4 * k.val := by decide
  obtain ⟨r, -, place⟩ := registers ⟨off.toNat / 4, by omega⟩
  exact ⟨r, BitVec.eq_of_toNat_eq (by rw [place]; dsimp only; omega)⟩

theorem regAt_eq_none (high : 0x048 ≤ off.toNat) : Reg.at? off = none := by
  cases found : Reg.at? off with
  | none => rfl
  | some r =>
    have := toNat_regOffset r
    rw [offset_of_regAt found] at high
    omega

/-! ## The slots -/

theorem slotOf_misaligned (h : off.toNat % 4 ≠ 0) : slotOf P off = .misaligned :=
  if_pos fun low => h ((offsetLow_eq_zero_iff off).1 low)

theorem slotOf_high (aligned : off.toNat % 4 = 0) (high : 0x800 ≤ off.toNat) :
    slotOf P off = if off.toNat < 0x800 + 4 * P.bodyMax then .bufEntry (offsetIndex off) else .unmapped := by
  have index : (offsetIndex off).toNat < P.bodyMax ↔ off.toNat < 0x800 + 4 * P.bodyMax := by
    rw [toNat_offsetIndex]; omega
  rw [slotOf, if_neg (not_not.2 ((offsetLow_eq_zero_iff off).2 aligned)), if_pos ((getLsbD_top_iff off).2 high)]
  simp only [index]

theorem slotOf_low (aligned : off.toNat % 4 = 0) (low : off.toNat < 0x800) :
    slotOf P off = (Reg.at? off).elim .unmapped .register := by
  rw [slotOf, if_neg (not_not.2 ((offsetLow_eq_zero_iff off).2 aligned)),
    if_neg (fun high => absurd ((getLsbD_top_iff off).1 high) (by omega))]
  cases Reg.at? off <;> rfl

theorem slotOf_bufOffset {k : BitVec 9} (inside : k.toNat < P.bodyMax) : slotOf P (bufOffset k) = .bufEntry k := by
  have place := toNat_bufOffset k
  rw [slotOf_high (by omega) (by omega), if_pos (by omega), offsetIndex_bufOffset]

theorem slotOf_regOffset (r : Reg) : slotOf P r.offset = .register r := by
  have place := toNat_regOffset r
  rw [slotOf_low (by omega) (by omega), regAt_offset, Option.elim_some]

/-- The check of 10_state R77 on the offset's number. -/
theorem unmapped_iff : off.unmapped P = true ↔
    off.toNat % 4 = 0 ∧ ((0x048 ≤ off.toNat ∧ off.toNat ≤ 0x7FC) ∨ 0x800 + 4 * P.bodyMax ≤ off.toNat) := by
  simp only [Offset.unmapped, Bool.and_eq_true, Bool.or_eq_true, beq_iff_eq, decide_eq_true_eq]

theorem slotOf_unmapped (h : off.unmapped P = true) : slotOf P off = .unmapped := by
  obtain ⟨aligned, inside⟩ := unmapped_iff.1 h
  rcases Nat.lt_or_ge off.toNat 0x800 with low | high
  · rw [slotOf_low aligned low, regAt_eq_none (by omega), Option.elim_none]
  · rw [slotOf_high aligned high, if_neg (by omega)]

/-- What an offset names, with the condition under which it does: one case for each kind of slot. -/
inductive Names (P : Params) : Offset → Slot → Prop
  | misaligned {off : Offset} : off.toNat % 4 ≠ 0 → Names P off .misaligned
  | bufEntry {k : BitVec 9} : k.toNat < P.bodyMax → Names P (bufOffset k) (.bufEntry k)
  | register (r : Reg) : Names P r.offset (.register r)
  | unmapped {off : Offset} : off.unmapped P = true → Names P off .unmapped

theorem slotOf_of_names {slot : Slot} (h : Names P off slot) : slotOf P off = slot := by
  cases h with
  | misaligned unaligned => exact slotOf_misaligned unaligned
  | bufEntry inside => exact slotOf_bufOffset inside
  | register r => exact slotOf_regOffset r
  | unmapped free => exact slotOf_unmapped free

theorem names_slotOf (P : Params) (off : Offset) : Names P off (slotOf P off) := by
  by_cases aligned : off.toNat % 4 = 0
  case neg => exact slotOf_misaligned (P := P) aligned ▸ .misaligned aligned
  rcases Nat.lt_or_ge off.toNat 0x800 with low | high
  · rcases Nat.lt_or_ge off.toNat 0x048 with register | beyond
    · obtain ⟨r, rfl⟩ := exists_reg_of_lt aligned register
      exact slotOf_regOffset (P := P) r ▸ .register r
    · have free : off.unmapped P = true := unmapped_iff.2 ⟨aligned, by omega⟩
      exact slotOf_unmapped free ▸ .unmapped free
  · rcases Nat.lt_or_ge off.toNat (0x800 + 4 * P.bodyMax) with inside | beyond
    · have index : (offsetIndex off).toNat < P.bodyMax := by rw [toNat_offsetIndex]; omega
      have named : Names P (bufOffset (offsetIndex off)) (.bufEntry (offsetIndex off)) := .bufEntry index
      rw [slotOf_high aligned high, if_pos inside]
      rwa [bufOffset_offsetIndex aligned high] at named
    · have free : off.unmapped P = true := unmapped_iff.2 ⟨aligned, by omega⟩
      exact slotOf_unmapped free ▸ .unmapped free

end Sys2Proof.Proofs
end

section
/-! O1, O2, O3, O4, O6: what `decode` answers, said once as the relation `Spells`, and the round trips it gives. -/

namespace Sys2Proof.Proofs
open Sys2Proof Sys2Proof.Machine

variable {P : Params} {o : Operation} {i : Instr} {op : BitVec 16}

/-! ## The word and its fields -/

theorem toNat_opClass (op : BitVec 16) : (opClass op).toNat = op.toNat / 0x4000 % 4 := by
  simp [opClass, Nat.shiftRight_eq_div_pow]

theorem toNat_opReserved (op : BitVec 16) : (opReserved op).toNat = op.toNat / 0x1000 % 4 := by
  simp [opReserved, Nat.shiftRight_eq_div_pow]

theorem toNat_opOffset (op : BitVec 16) : (opOffset op).toNat = op.toNat % 0x1000 := by
  simp [opOffset]

theorem toNat_opEventHigh (op : BitVec 16) : (opEventHigh op).toNat = op.toNat / 0x10 % 0x100 := by
  simp [opEventHigh, Nat.shiftRight_eq_div_pow]

theorem toNat_opEventCode (op : BitVec 16) : (opEventCode op).toNat = op.toNat % 0x10 := by
  simp [opEventCode]

theorem toNat_readWord (off : Offset) : (readWord off).toNat = off.toNat := by
  have := off.isLt
  simp [readWord]
  omega

theorem toNat_writeWord (off : Offset) : (writeWord off).toNat = 0x4000 + off.toNat := by
  have fits : off.toNat < 2 ^ 14 := by omega
  have disjoint : 0x4000 + off.toNat = 0x4000 ||| off.toNat := Nat.two_pow_add_eq_or_of_lt fits 1
  have narrow : off.toNat % 65536 = off.toNat := by omega
  simp [writeWord, narrow, disjoint]

theorem toNat_eventWord (e : Event) : (eventWord e).toNat = 0x8000 + e.code.toNat := by cases e <;> rfl

/-- A word in the READ class is the READ of its offset (30_encoding R149). -/
theorem eq_readWord (reserved : opReserved op = 0) (kind : opClass op = 0b00) : op = readWord (opOffset op) := by
  rw [← BitVec.toNat_inj, toNat_opReserved] at reserved
  rw [← BitVec.toNat_inj, toNat_opClass] at kind
  rw [← BitVec.toNat_inj, toNat_readWord, toNat_opOffset]
  bv_omega

/-- A word in the WRITE class is the WRITE of its offset (30_encoding R149). -/
theorem eq_writeWord (reserved : opReserved op = 0) (kind : opClass op = 0b01) : op = writeWord (opOffset op) := by
  rw [← BitVec.toNat_inj, toNat_opReserved] at reserved
  rw [← BitVec.toNat_inj, toNat_opClass] at kind
  rw [← BitVec.toNat_inj, toNat_writeWord, toNat_opOffset]
  bv_omega

theorem code_of_ofCode {c : BitVec 4} {e : Event} (found : Event.ofCode? c = some e) : e.code = c := by
  unfold Event.ofCode? at found
  have matched := List.find?_some found
  exact eq_of_beq matched

/-- The codes 5 to 15 are reserved (30_encoding R142). -/
theorem ofCode_eq_none_iff (c : BitVec 4) : Event.ofCode? c = none ↔ 5 ≤ c.toNat := by
  revert c; decide

@[simp] theorem opClass_eventWord (e : Event) : opClass (eventWord e) = 0b10 := by cases e <;> rfl

@[simp] theorem opReserved_eventWord (e : Event) : opReserved (eventWord e) = 0 := by cases e <;> rfl

@[simp] theorem decodeEvent_eventWord (e : Event) : decodeEvent (eventWord e) = some e := by cases e <;> rfl

/-- A word in the EVENT class that spells an event is that event's word (30_encoding R142). -/
theorem eq_eventWord {e : Event} (reserved : opReserved op = 0) (kind : opClass op = 0b10)
    (spelt : decodeEvent op = some e) : op = eventWord e := by
  unfold decodeEvent at spelt
  split at spelt
  case isFalse => cases spelt
  case isTrue high =>
    have code := code_of_ofCode spelt
    rw [← BitVec.toNat_inj, toNat_opReserved] at reserved
    rw [← BitVec.toNat_inj, toNat_opClass] at kind
    rw [← BitVec.toNat_inj, toNat_opEventHigh] at high
    rw [← BitVec.toNat_inj, toNat_opEventCode] at code
    rw [← BitVec.toNat_inj, toNat_eventWord, code]
    bv_omega

theorem decodeEvent_eq_none_iff (op : BitVec 16) :
    decodeEvent op = none ↔ opEventHigh op ≠ 0 ∨ 5 ≤ (opEventCode op).toNat := by
  rw [← ofCode_eq_none_iff, decodeEvent]
  split
  case isTrue high => simp [high]
  case isFalse high => exact iff_of_true rfl (.inl high)

/-- The words that spell no operation, by the decoder's own fields (30_encoding R143). -/
theorem illegalWord_iff (op : BitVec 16) : illegalWord op = true ↔
    opClass op = 3 ∨ opReserved op ≠ 0 ∨ (opClass op = 2 ∧ decodeEvent op = none) := by
  rw [decodeEvent_eq_none_iff]
  simp only [illegalWord, Bool.or_eq_true, Bool.and_eq_true, beq_iff_eq, bne_iff_ne, decide_eq_true_eq, or_assoc]
  rfl

/-- What a word is, one case for each class of 30_encoding R140 and one for the words of R143. -/
theorem word_cases (op : BitVec 16) : illegalWord op = true ∨ (∃ off, op = readWord off) ∨ (∃ off, op = writeWord off) ∨
    ∃ e, op = eventWord e := by
  by_cases illegal : illegalWord op = true
  case pos => exact .inl illegal
  simp only [illegalWord_iff, not_or, not_and, not_not] at illegal
  obtain ⟨notLast, reserved, legal⟩ := illegal
  have classes : ∀ c : BitVec 2, c ≠ 3 → c = 0 ∨ c = 1 ∨ c = 2 := by decide
  rcases classes _ notLast with kind | kind | kind
  · exact .inr (.inl ⟨_, eq_readWord reserved kind⟩)
  · exact .inr (.inr (.inl ⟨_, eq_writeWord reserved kind⟩))
  · obtain ⟨e, spelt⟩ := Option.ne_none_iff_exists'.1 (legal kind)
    exact .inr (.inr (.inr ⟨e, eq_eventWord reserved kind spelt⟩))

/-! ## What `decode` answers -/

/-- The READ of an offset, given what the offset names (45_host_bus R350); `decodeRead_eq` ties it to the decoder. -/
def readOf (off : Offset) : Slot → Instr
  | .misaligned => .rdMisaligned off
  | .bufEntry k => .rdBuf k
  | .register r => r.readInstr
  | .unmapped => .rdUnmapped off

/-- The WRITE of an offset, given what the offset names (45_host_bus R351); `decodeWrite_eq` ties it to the decoder. -/
def writeOf (off : Offset) (w : Word) : Slot → Instr
  | .misaligned => .wrMisaligned off w
  | .bufEntry k => .wrBuf k w
  | .register r => r.writeInstr w
  | .unmapped => .wrUnmapped off w

theorem decodeRead_eq (P : Params) (off : Offset) : decodeRead P off = readOf off (slotOf P off) := by
  unfold decodeRead
  cases slotOf P off <;> rfl

theorem decodeWrite_eq (P : Params) (off : Offset) (w : Word) : decodeWrite P off w = writeOf off w (slotOf P off) := by
  unfold decodeWrite
  cases slotOf P off <;> rfl

@[simp] theorem decode_read (P : Params) (off : Offset) : decode P ⟨readWord off, none⟩ = .ok (decodeRead P off) := by
  simp [decode]

@[simp] theorem decode_write (P : Params) (off : Offset) (w : Word) :
    decode P ⟨writeWord off, some w⟩ = .ok (decodeWrite P off w) := by
  simp [decode]

@[simp] theorem decode_event (P : Params) (e : Event) : decode P ⟨eventWord e, none⟩ = .ok e.instr := by
  simp [decode]

theorem decode_illegal (illegal : illegalWord o.op = true) : decode P o = .ok (.invalid o.op) := by
  unfold decode
  rcases (illegalWord_iff o.op).1 illegal with kind | reserved | ⟨kind, reserved⟩
  · simp [kind]
  · rw [if_pos reserved]
  · simp [kind, reserved]

@[simp] theorem decode_read_operand (P : Params) (off : Offset) (w : Word) :
    decode P ⟨readWord off, some w⟩ = .error .operandNotTaken := by
  simp [decode]

@[simp] theorem decode_write_noOperand (P : Params) (off : Offset) :
    decode P ⟨writeWord off, none⟩ = .error .operandMissing := by
  simp [decode]

@[simp] theorem decode_event_operand (P : Params) (e : Event) (w : Word) :
    decode P ⟨eventWord e, some w⟩ = .error .operandNotTaken := by
  simp [decode]

/-- The operations that spell an instruction, and which one: a READ or WRITE of what an offset names, an event, or an
illegal word. -/
inductive Spells (P : Params) : Operation → Instr → Prop
  | read {off : Offset} {slot : Slot} : Names P off slot → Spells P ⟨readWord off, none⟩ (readOf off slot)
  | write {off : Offset} {slot : Slot} (w : Word) : Names P off slot → Spells P ⟨writeWord off, some w⟩ (writeOf off w slot)
  | event (e : Event) : Spells P ⟨eventWord e, none⟩ e.instr
  | illegal (o : Operation) : illegalWord o.op = true → Spells P o (.invalid o.op)

theorem decode_of_spells (h : Spells P o i) : decode P o = .ok i := by
  cases h with
  | read named => rw [decode_read, decodeRead_eq, slotOf_of_names named]
  | write w named => rw [decode_write, decodeWrite_eq, slotOf_of_names named]
  | event e => exact decode_event P e
  | illegal _ illegal => exact decode_illegal illegal

theorem spells_of_decode (h : decode P o = .ok i) : Spells P o i := by
  obtain ⟨op, wdata⟩ := o
  rcases word_cases op with illegal | ⟨off, word⟩ | ⟨off, word⟩ | ⟨e, word⟩
  · rw [decode_illegal (o := ⟨op, wdata⟩) illegal] at h
    exact Except.ok.inj h ▸ .illegal ⟨op, wdata⟩ illegal
  · subst word
    cases wdata with
    | none => rw [decode_read, decodeRead_eq] at h; exact Except.ok.inj h ▸ .read (names_slotOf P off)
    | some w => rw [decode_read_operand] at h; nomatch h
  · subst word
    cases wdata with
    | none => rw [decode_write_noOperand] at h; nomatch h
    | some w => rw [decode_write, decodeWrite_eq] at h; exact Except.ok.inj h ▸ .write w (names_slotOf P off)
  · subst word
    cases wdata with
    | none => rw [decode_event] at h; exact Except.ok.inj h ▸ .event e
    | some w => rw [decode_event_operand] at h; nomatch h

/-! ## Decoded instructions are well-formed and encode to their operation -/

theorem readInstr_wf (P : Params) (r : Reg) : r.readInstr.wf P = true := by cases r <;> rfl

theorem commandInstr_wf (P : Params) (w : Word) : (commandInstr w).wf P = true := by
  unfold commandInstr
  split_ifs with send cancel crcInit
  · rfl
  · rfl
  · rfl
  · simpa [Instr.wf] using ⟨⟨send, cancel⟩, crcInit⟩

theorem writeInstr_wf (P : Params) (w : Word) (r : Reg) : (r.writeInstr w).wf P = true := by
  cases r with
  | cmd => exact commandInstr_wf P w
  | _ => rfl

theorem encode_readInstr (r : Reg) : encode r.readInstr = ⟨readWord r.offset, none⟩ := by cases r <;> rfl

theorem encode_commandInstr (w : Word) : encode (commandInstr w) = ⟨0x400C, some w⟩ := by
  unfold commandInstr
  split_ifs with send cancel crcInit
  · rw [send]; rfl
  · rw [cancel]; rfl
  · rw [crcInit]; rfl
  · rfl

theorem encode_writeInstr (w : Word) (r : Reg) : encode (r.writeInstr w) = ⟨writeWord r.offset, some w⟩ := by
  cases r with
  | cmd => exact encode_commandInstr w
  | _ => rfl

theorem encode_instr (e : Event) : encode e.instr = ⟨eventWord e, none⟩ := by cases e <;> rfl

/-- The offset check of 20_memory R106, as a number. -/
theorem misaligned_of_ne (h : off.toNat % 4 ≠ 0) : Offset.misaligned off = true := bne_iff_ne.2 h

/-- Whatever an operation spells meets the operand checks of its instruction. -/
theorem spells_wf (h : Spells P o i) : i.wf P = true := by
  cases h with
  | read named =>
    cases named with
    | misaligned unaligned => exact misaligned_of_ne unaligned
    | bufEntry inside => exact decide_eq_true inside
    | register r => exact readInstr_wf P r
    | unmapped free => exact free
  | write _ named =>
    cases named with
    | misaligned unaligned => exact misaligned_of_ne unaligned
    | bufEntry inside => exact decide_eq_true inside
    | register r => exact writeInstr_wf P _ r
    | unmapped free => exact free
  | event e => cases e <;> rfl
  | illegal _ illegal => exact illegal

theorem encode_readOf {slot : Slot} (named : Names P off slot) : encode (readOf off slot) = ⟨readWord off, none⟩ := by
  cases named with
  | register r => exact encode_readInstr r
  | _ => rfl

theorem encode_writeOf {slot : Slot} (w : Word) (named : Names P off slot) :
    encode (writeOf off w slot) = ⟨writeWord off, some w⟩ := by
  cases named with
  | register r => exact encode_writeInstr w r
  | _ => rfl

/-! ## A well-formed instruction is spelt by its encoding -/

theorem spells_badCmd {w : Word} (h : (Instr.badCmd w).wf P = true) : Spells P (encode (.badCmd w)) (.badCmd w) := by
  simp only [Instr.wf, Bool.and_eq_true, bne_iff_ne] at h
  obtain ⟨⟨send, cancel⟩, crcInit⟩ := h
  have other : commandInstr w = .badCmd w := by rw [commandInstr, if_neg send, if_neg cancel, if_neg crcInit]
  have spelt : Spells P ⟨writeWord Reg.cmd.offset, some w⟩ (commandInstr w) := .write w (.register .cmd)
  rwa [other] at spelt

/-- By cases on the instruction: the register it reads or writes, the event it stands for, or the slot its offset names. -/
theorem spells_encode : (i : Instr) → i.wf P = true → Spells P (encode i) i
  | .rdCtrl, _ => .read (.register .ctrl)
  | .wrCtrl w, _ => .write w (.register .ctrl)
  | .rdStatus, _ => .read (.register .status)
  | .wrStatus w, _ => .write w (.register .status)
  | .rdEvents, _ => .read (.register .events)
  | .wrEvents w, _ => .write w (.register .events)
  | .rdCmd, _ => .read (.register .cmd)
  | .send, _ => .write 1 (.register .cmd)
  | .cancel, _ => .write 2 (.register .cmd)
  | .crcInit, _ => .write 3 (.register .cmd)
  | .badCmd _, h => spells_badCmd h
  | .rdFrameLen, _ => .read (.register .frameLen)
  | .wrFrameLen w, _ => .write w (.register .frameLen)
  | .rdPreambleMs, _ => .read (.register .preambleMs)
  | .wrPreambleMs w, _ => .write w (.register .preambleMs)
  | .rdTailMs, _ => .read (.register .tailMs)
  | .wrTailMs w, _ => .write w (.register .tailMs)
  | .rdPttLeadMs, _ => .read (.register .pttLeadMs)
  | .wrPttLeadMs w, _ => .write w (.register .pttLeadMs)
  | .rdPttTrailMs, _ => .read (.register .pttTrailMs)
  | .wrPttTrailMs w, _ => .write w (.register .pttTrailMs)
  | .rdCrc, _ => .read (.register .crc)
  | .wrCrc w, _ => .write w (.register .crc)
  | .rdCrcData, _ => .read (.register .crcData)
  | .wrCrcData w, _ => .write w (.register .crcData)
  | .rdFcs, _ => .read (.register .fcs)
  | .wrFcs w, _ => .write w (.register .fcs)
  | .rdPhase, _ => .read (.register .phase)
  | .wrPhase w, _ => .write w (.register .phase)
  | .rdParam0, _ => .read (.register .param0)
  | .wrParam0 w, _ => .write w (.register .param0)
  | .rdParam1, _ => .read (.register .param1)
  | .wrParam1 w, _ => .write w (.register .param1)
  | .rdSampleCount, _ => .read (.register .sampleCount)
  | .wrSampleCount w, _ => .write w (.register .sampleCount)
  | .rdTimers, _ => .read (.register .timers)
  | .wrTimers w, _ => .write w (.register .timers)
  | .rdEncPos, _ => .read (.register .encPos)
  | .wrEncPos w, _ => .write w (.register .encPos)
  | .evReset, _ => .event .reset
  | .evSampleStrobe, _ => .event .sampleStrobe
  | .evTimeTick, _ => .event .timeTick
  | .evSinkDrained, _ => .event .sinkDrained
  | .evSinkFault, _ => .event .sinkFault
  | .rdBuf _, h => .read (.bufEntry (of_decide_eq_true h))
  | .wrBuf _ w, h => .write w (.bufEntry (of_decide_eq_true h))
  | .rdUnmapped _, h => .read (.unmapped h)
  | .wrUnmapped _ w, h => .write w (.unmapped h)
  | .rdMisaligned _, h => .read (.misaligned (bne_iff_ne.1 h))
  | .wrMisaligned _ w, h => .write w (.misaligned (bne_iff_ne.1 h))
  | .invalid op, h => .illegal ⟨op, none⟩ h

/-! ## The obligations -/

/-- Settles O2: the encoding of a well-formed instruction spells it, and `decode` answers what an operation spells. -/
theorem decodeOfEncodeIsTheInstruction : Obligations.DecodeOfEncodeIsTheInstruction := by
  unfold Obligations.DecodeOfEncodeIsTheInstruction
  exact fun _ i wellFormed => decode_of_spells (spells_encode i wellFormed)

/-- Settles O3, by cases on how the operation spells the instruction. -/
theorem encodeOfDecodeIsTheOperation : Obligations.EncodeOfDecodeIsTheOperation := by
  unfold Obligations.EncodeOfDecodeIsTheOperation
  intro P o i decoded legal
  cases spells_of_decode decoded with
  | read named => exact encode_readOf named
  | write _ named => exact encode_writeOf _ named
  | event e => exact encode_instr e
  | illegal _ _ => exact (legal _ rfl).elim

/-- Settles O4: what is decoded is spelt by the operation. -/
theorem decodedInstructionsAreWellFormed : Obligations.DecodedInstructionsAreWellFormed := by
  unfold Obligations.DecodedInstructionsAreWellFormed
  exact fun _ _ _ decoded => spells_wf (spells_of_decode decoded)

/-- Settles O6: the operand check of `invalid` is the rule's condition on the word, and the arm of `invalid` refuses. -/
theorem illegalWordsAreRefused : Obligations.IllegalWordsAreRefused := by
  unfold Obligations.IllegalWordsAreRefused
  refine ⟨fun P o => ?_, fun _ _ => rfl⟩
  have rule : illegalWord o.op = true ↔ decode P o = .ok (.invalid o.op) :=
    ⟨decode_illegal, fun decoded => spells_wf (spells_of_decode decoded)⟩
  rw [← rule, illegalWord_iff, decodeEvent_eq_none_iff]
  rfl

/-- Settles O1: each word is evaluated. -/
theorem wordsDecodeAsTheMapSays : Obligations.WordsDecodeAsTheMapSays := by
  unfold Obligations.WordsDecodeAsTheMapSays
  exact ⟨rfl, rfl, rfl, rfl, rfl, rfl, rfl, rfl, rfl, rfl, rfl, rfl, rfl, rfl, rfl, rfl⟩

end Sys2Proof.Proofs
end

section
/-! O8, O9: a step without an operation, and a step on a word placed by `withFetchWord`. -/

namespace Sys2Proof.Proofs
open Sys2Proof Sys2Proof.Machine

/-- Settles O8: the inbox picks the branch of `step`, the decoder's error the refusal. -/
theorem stepWithoutAnOperation : Obligations.StepWithoutAnOperation := by
  unfold Obligations.StepWithoutAnOperation
  refine ⟨fun s empty => ?_, fun s o rest e arrival malformed => ?_⟩
  · simp only [step, empty]
  · simp only [step, arrival, malformed]

theorem decode_of_decodeTableWord {nbits w : Nat} {i : Instr} (h : decodeTableWord nbits w = some i) :
    decode Config.block (Operation.ofTableWord nbits w) = .ok i := by
  unfold decodeTableWord at h
  split at h
  case h_1 _ decoded => exact Option.some.inj h ▸ decoded
  case h_2 => nomatch h

/-- Settles O9: the placed word is the oldest arrival, and what waits behind it is the inbox it was placed on. -/
theorem fetchWordPerformsItsInstruction : Obligations.FetchWordPerformsItsInstruction := by
  unfold Obligations.FetchWordPerformsItsInstruction
  intro s nbits w i decoded
  exact stepPerformsTheOldestArrival (s.withFetchWord nbits w) _ s.inbox i rfl (decode_of_decodeTableWord decoded)

end Sys2Proof.Proofs
end

section
/-! O5: the opcode table of 30_encoding R147. Its rows exclude each other, and each operation that spells an instruction
matches a row of that instruction's mnemonic. -/

namespace Sys2Proof.Proofs
open Sys2Proof Sys2Proof.Machine

variable {o : Operation} {i : Instr}

/-! ## Rows exclude each other -/

/-- The row's conditions on the word and on the operand hold. -/
def rowMatches (o : Operation) (r : OpcodeRow) : Bool := r.hasWord o.op && r.hasOperand o.wdata

theorem rowMatches_iff {r : OpcodeRow} :
    rowMatches o r = true ↔ r.hasWord o.op = true ∧ r.hasOperand o.wdata = true := Bool.and_eq_true_iff

/-- No operand meets both conditions. -/
def operandsExclude : RowOperand → RowOperand → Bool
  | .exactly v, .exactly w => v != w
  | .exactly v, .otherCommand => v == 1 || v == 2 || v == 3
  | _, _ => false

/-- The rows differ in a bit that both fix, or no operand meets both conditions. -/
def rowsExclude (a b : OpcodeRow) : Bool :=
  a.pattern &&& b.mask != b.pattern &&& a.mask || operandsExclude a.operand b.operand

theorem not_hasOperand_of_exclude {a b : OpcodeRow} {w : Option Word} (h : operandsExclude a.operand b.operand = true)
    (ha : a.hasOperand w = true) (hb : b.hasOperand w = true) : False := by
  cases ka : a.operand with
  | exactly v =>
    have given : w = some v := by simpa [OpcodeRow.hasOperand, ka] using ha
    subst given
    cases kb : b.operand with
    | exactly u =>
      have same : v = u := by simpa [OpcodeRow.hasOperand, kb] using hb
      simp [operandsExclude, ka, kb, same] at h
    | otherCommand =>
      obtain ⟨⟨send, cancel⟩, crcInit⟩ : (v ≠ 1 ∧ v ≠ 2) ∧ v ≠ 3 := by simpa [OpcodeRow.hasOperand, kb] using hb
      rcases (by simpa [operandsExclude, ka, kb, or_assoc] using h : v = 1 ∨ v = 2 ∨ v = 3) with one | two | three
      · exact send one
      · exact cancel two
      · exact crcInit three
    | any => simp [operandsExclude, ka, kb] at h
  | _ => simp [operandsExclude, ka] at h

theorem not_rowMatches_of_exclude {a b : OpcodeRow} (h : rowsExclude a b = true) :
    ¬ (rowMatches o a = true ∧ rowMatches o b = true) := by
  rintro ⟨ma, mb⟩
  obtain ⟨wordA, operandA⟩ := rowMatches_iff.1 ma
  obtain ⟨wordB, operandB⟩ := rowMatches_iff.1 mb
  have shared : a.pattern &&& b.mask = b.pattern &&& a.mask := by
    rw [← eq_of_beq wordA, ← eq_of_beq wordB, BitVec.and_assoc, BitVec.and_assoc, BitVec.and_comm a.mask]
  rcases Bool.or_eq_true_iff.1 h with words | operands
  · exact bne_iff_ne.1 words shared
  · exact not_hasOperand_of_exclude operands operandA operandB

theorem opcodeRows_exclude : opcodeRows.Pairwise fun a b => rowsExclude a b = true := by decide

theorem opcodeRows_disjoint (o : Operation) :
    opcodeRows.Pairwise fun a b => ¬ (rowMatches o a = true ∧ rowMatches o b = true) :=
  opcodeRows_exclude.imp not_rowMatches_of_exclude

theorem filter_eq_singleton {α : Type} {p : α → Bool} {a : α} {l : List α}
    (disjoint : l.Pairwise fun b c => ¬ (p b = true ∧ p c = true)) (listed : a ∈ l) (holds : p a = true) : l.filter p = [a] := by
  induction l with
  | nil => nomatch listed
  | cons b t ih =>
    obtain ⟨head, tail⟩ := List.pairwise_cons.1 disjoint
    rcases List.mem_cons.1 listed with rfl | later
    · rw [List.filter_cons_of_pos holds, List.filter_eq_nil_iff.2 fun c mem both => head c mem ⟨holds, both⟩]
    · rw [List.filter_cons_of_neg fun first => head a later ⟨first, holds⟩, ih tail later]

/-! ## Blocks of words -/

/-- The numbers from `first`, a multiple of `2 ^ bits`, to `first + 2 ^ bits - 1` whose lowest `lowBits` bits are `low`. -/
structure Block where
  first : Nat
  bits : Nat
  low : Nat
  lowBits : Nat

def Block.Has (b : Block) (x : Nat) : Prop := b.first ≤ x ∧ x < b.first + 2 ^ b.bits ∧ x % 2 ^ b.lowBits = b.low

/-- The row of the table for the words of a block. -/
def Block.row (b : Block) (mnemonic : String) : OpcodeRow where
  mnemonic := mnemonic
  pattern := BitVec.ofNat 16 (b.first + b.low)
  mask := BitVec.allOnes 16 <<< b.bits ||| ~~~ (BitVec.allOnes 16 <<< b.lowBits)
  operand := .any

def Block.Tidy (b : Block) : Prop := b.first % 2 ^ b.bits = 0 ∧ b.low < 2 ^ b.lowBits ∧ b.lowBits ≤ b.bits

/-- A number of a block agrees with the block's pattern in the bits that the block fixes; the pattern's other bits are 0. -/
theorem testBit_of_has {b : Block} {x : Nat} (tidy : b.Tidy) (has : b.Has x) (k : Nat) :
    (b.first + b.low).testBit k = (x.testBit k && (decide (b.bits ≤ k) || decide (k < b.lowBits))) := by
  obtain ⟨aligned, lowSmall, ordered⟩ := tidy
  obtain ⟨lower, upper, lowest⟩ := has
  obtain ⟨c, first⟩ := Nat.dvd_of_mod_eq_zero aligned
  obtain ⟨d, rfl⟩ := Nat.exists_eq_add_of_le lower
  have dSmall : d < 2 ^ b.bits := by omega
  have lowFits : b.low < 2 ^ b.bits := lowSmall.trans_le (Nat.pow_le_pow_right (by decide) ordered)
  rcases Nat.lt_or_ge k b.bits with inside | above
  · have lowBit : b.low.testBit k = (decide (k < b.lowBits) && (b.first + d).testBit k) := by
      rw [← lowest, Nat.testBit_mod_two_pow]
    rw [first, Nat.testBit_two_pow_mul_add _ lowFits, if_pos inside, ← first, lowBit, Bool.and_comm,
      decide_eq_false (Nat.not_le.2 inside), Bool.false_or]
  · rw [first, Nat.testBit_two_pow_mul_add _ lowFits, Nat.testBit_two_pow_mul_add _ dSmall]
    simp [above, Nat.not_lt.2 above]

theorem getLsbD_mask (b : Block) (mnemonic : String) (k : Nat) :
    (b.row mnemonic).mask.getLsbD k = (decide (k < 16) && (decide (b.bits ≤ k) || decide (k < b.lowBits))) := by
  simp only [Block.row, BitVec.getLsbD_or, BitVec.getLsbD_not, BitVec.getLsbD_shiftLeft, BitVec.getLsbD_allOnes]
  by_cases narrow : k < 16
  · have above : k - b.bits < 16 := by omega
    have below : k - b.lowBits < 16 := by omega
    have order : decide (b.bits ≤ k) = !decide (k < b.bits) := by
      rw [← decide_not, decide_eq_decide, Nat.not_lt]
    simp [narrow, above, below, order]
  · simp [narrow]

theorem hasWord_row {b : Block} {op : BitVec 16} (mnemonic : String) (tidy : b.Tidy) (has : b.Has op.toNat) :
    (b.row mnemonic).hasWord op = true := by
  apply beq_of_eq
  apply BitVec.eq_of_getLsbD_eq
  intro k hk
  have pattern : (b.row mnemonic).pattern.getLsbD k = (b.first + b.low).testBit k := by
    rw [Block.row, BitVec.getLsbD_ofNat, decide_eq_true hk, Bool.true_and]
  rw [BitVec.getLsbD_and, getLsbD_mask, pattern, testBit_of_has tidy has, decide_eq_true hk, Bool.true_and]
  rfl

/-! ## The blocks of the table -/

/-- The blocks of the buffer's offsets below 0xD20, each beginning `base` higher (0 for a READ, 0x4000 for a WRITE). -/
def bufferBlocks (base : Nat) : List Block :=
  [⟨base + 0x800, 10, 0, 2⟩, ⟨base + 0xC00, 8, 0, 2⟩, ⟨base + 0xD00, 5, 0, 2⟩]

/-- The blocks of the unmapped offsets, each beginning `base` higher. -/
def unmappedBlocks (base : Nat) : List Block :=
  [⟨base + 0x048, 3, 0, 2⟩, ⟨base + 0x050, 4, 0, 2⟩, ⟨base + 0x060, 5, 0, 2⟩, ⟨base + 0x080, 7, 0, 2⟩,
    ⟨base + 0x100, 8, 0, 2⟩, ⟨base + 0x200, 9, 0, 2⟩, ⟨base + 0x400, 10, 0, 2⟩, ⟨base + 0xD20, 5, 0, 2⟩,
    ⟨base + 0xD40, 6, 0, 2⟩, ⟨base + 0xD80, 7, 0, 2⟩, ⟨base + 0xE00, 9, 0, 2⟩]

/-- The blocks of the misaligned offsets, each beginning `base` higher. -/
def misalignedBlocks (base : Nat) : List Block := [⟨base, 12, 1, 1⟩, ⟨base, 12, 2, 2⟩]

/-- The blocks of the words that spell no operation. -/
def illegalBlocks : List Block :=
  [⟨0xC000, 14, 0, 0⟩, ⟨0x1000, 12, 0, 0⟩, ⟨0x2000, 13, 0, 0⟩, ⟨0x5000, 12, 0, 0⟩, ⟨0x6000, 13, 0, 0⟩,
    ⟨0x9000, 12, 0, 0⟩, ⟨0xA000, 13, 0, 0⟩, ⟨0x8005, 0, 0, 0⟩, ⟨0x8006, 1, 0, 0⟩, ⟨0x8008, 3, 0, 0⟩,
    ⟨0x8010, 4, 0, 0⟩, ⟨0x8020, 5, 0, 0⟩, ⟨0x8040, 6, 0, 0⟩, ⟨0x8080, 7, 0, 0⟩, ⟨0x8100, 8, 0, 0⟩,
    ⟨0x8200, 9, 0, 0⟩, ⟨0x8400, 10, 0, 0⟩, ⟨0x8800, 11, 0, 0⟩]

theorem exists_bufferBlock {base : Nat} {k : BitVec 9} (aligned : base % 4 = 0) (inside : k.toNat < Config.block.bodyMax) :
    ∃ b ∈ bufferBlocks base, b.Has (base + (bufOffset k).toNat) := by
  rw [show Config.block.bodyMax = 328 from rfl] at inside
  rw [toNat_bufOffset]
  simp [bufferBlocks, Block.Has]
  omega

theorem exists_unmappedBlock {base : Nat} {off : Offset} (aligned : base % 4 = 0) (free : off.unmapped Config.block = true) :
    ∃ b ∈ unmappedBlocks base, b.Has (base + off.toNat) := by
  have := off.isLt
  rw [unmapped_iff, show Config.block.bodyMax = 328 from rfl] at free
  simp [unmappedBlocks, Block.Has]
  omega

theorem exists_misalignedBlock {base : Nat} {off : Offset} (aligned : base % 4 = 0) (unaligned : off.toNat % 4 ≠ 0) :
    ∃ b ∈ misalignedBlocks base, b.Has (base + off.toNat) := by
  have := off.isLt
  simp [misalignedBlocks, Block.Has]
  omega

theorem exists_illegalBlock {op : BitVec 16} (illegal : illegalWord op = true) : ∃ b ∈ illegalBlocks, b.Has op.toNat := by
  have := op.isLt
  rw [illegalWord_iff, decodeEvent_eq_none_iff] at illegal
  simp only [← BitVec.toNat_inj, Ne, toNat_opClass, toNat_opReserved, toNat_opEventHigh, toNat_opEventCode] at illegal
  simp [illegalBlocks, Block.Has] at illegal ⊢
  omega

/-- The table lists each of these blocks as a row of its mnemonic. -/
def Listed (mnemonic : String) (blocks : List Block) : Prop := ∀ b ∈ blocks, b.Tidy ∧ b.row mnemonic ∈ opcodeRows

theorem bufferBlocks_listed : Listed "RD_BUF_i" (bufferBlocks 0) ∧ Listed "WR_BUF_i" (bufferBlocks 0x4000) := by
  unfold Listed Block.Tidy
  decide

theorem unmappedBlocks_listed :
    Listed "RD_unmapped" (unmappedBlocks 0) ∧ Listed "WR_unmapped" (unmappedBlocks 0x4000) := by
  unfold Listed Block.Tidy
  decide

theorem misalignedBlocks_listed :
    Listed "RD_misaligned" (misalignedBlocks 0) ∧ Listed "WR_misaligned" (misalignedBlocks 0x4000) := by
  unfold Listed Block.Tidy
  decide

theorem illegalBlocks_listed : Listed "INVALID" illegalBlocks := by
  unfold Listed Block.Tidy
  decide

/-! ## An operation matches a row of the instruction it spells -/

/-- The table has a row of this mnemonic that the operation matches. -/
def HasRow (o : Operation) (mnemonic : String) : Prop :=
  ∃ r ∈ opcodeRows, r.mnemonic = mnemonic ∧ rowMatches o r = true

theorem hasRow_of_blocks {mnemonic : String} {blocks : List Block} (listed : Listed mnemonic blocks)
    (found : ∃ b ∈ blocks, b.Has o.op.toNat) : HasRow o mnemonic := by
  obtain ⟨b, mem, has⟩ := found
  obtain ⟨tidy, row⟩ := listed b mem
  exact ⟨b.row mnemonic, row, rfl, rowMatches_iff.2 ⟨hasWord_row mnemonic tidy has, rfl⟩⟩

/-- A row that takes any operand is matched by its word. -/
theorem hasRow_of_word {op : BitVec 16} {mnemonic : String} (w : Option Word)
    (found : ∃ r ∈ opcodeRows, r.mnemonic = mnemonic ∧ r.hasWord op = true ∧ r.operand = .any) : HasRow ⟨op, w⟩ mnemonic := by
  obtain ⟨r, mem, name, word, any⟩ := found
  exact ⟨r, mem, name, rowMatches_iff.2 ⟨word, by rw [OpcodeRow.hasOperand, any]⟩⟩

/-- A CMD row is matched by the word of CMD and an operand that it takes. -/
theorem hasRow_cmd {mnemonic : String} {operand : RowOperand} {w : Option Word}
    (listed : (⟨mnemonic, 0x400C, 0xFFFF, operand⟩ : OpcodeRow) ∈ opcodeRows)
    (takes : OpcodeRow.hasOperand ⟨mnemonic, 0x400C, 0xFFFF, operand⟩ w = true) : HasRow ⟨0x400C, w⟩ mnemonic := by
  have word : (0x400C : BitVec 16) &&& 0xFFFF = 0x400C := by decide
  exact ⟨_, listed, rfl, rowMatches_iff.2 ⟨beq_of_eq word, takes⟩⟩

theorem hasRow_commandInstr (w : Word) : HasRow ⟨0x400C, some w⟩ (mnemonicOf (commandInstr w)) := by
  unfold commandInstr
  split_ifs with send cancel crcInit
  · exact hasRow_cmd (operand := .exactly 1) (by decide) (by rw [send]; rfl)
  · exact hasRow_cmd (operand := .exactly 2) (by decide) (by rw [cancel]; rfl)
  · exact hasRow_cmd (operand := .exactly 3) (by decide) (by rw [crcInit]; rfl)
  · refine hasRow_cmd (mnemonic := "BAD_CMD") (operand := .otherCommand) (by decide) ?_
    simpa [OpcodeRow.hasOperand] using ⟨⟨send, cancel⟩, crcInit⟩

theorem hasRow_readInstr (r : Reg) : HasRow ⟨readWord r.offset, none⟩ (mnemonicOf r.readInstr) := by
  apply hasRow_of_word
  cases r <;> decide

theorem hasRow_writeInstr (w : Word) (r : Reg) : HasRow ⟨writeWord r.offset, some w⟩ (mnemonicOf (r.writeInstr w)) := by
  by_cases command : r = .cmd
  case pos => subst command; exact hasRow_commandInstr w
  have name : mnemonicOf (r.writeInstr w) = mnemonicOf (r.writeInstr 0) := by
    cases r with
    | cmd => exact absurd rfl command
    | _ => rfl
  rw [name]
  apply hasRow_of_word
  revert command
  cases r <;> decide

theorem hasRow_readOf {off : Offset} {slot : Slot} (named : Names Config.block off slot) :
    HasRow ⟨readWord off, none⟩ (mnemonicOf (readOf off slot)) := by
  have place : (readWord off).toNat = 0 + off.toNat := by rw [toNat_readWord, Nat.zero_add]
  cases named with
  | misaligned unaligned =>
    exact hasRow_of_blocks misalignedBlocks_listed.1 (place ▸ exists_misalignedBlock rfl unaligned)
  | bufEntry inside => exact hasRow_of_blocks bufferBlocks_listed.1 (place ▸ exists_bufferBlock rfl inside)
  | register r => exact hasRow_readInstr r
  | unmapped free => exact hasRow_of_blocks unmappedBlocks_listed.1 (place ▸ exists_unmappedBlock rfl free)

theorem hasRow_writeOf {off : Offset} {slot : Slot} (w : Word) (named : Names Config.block off slot) :
    HasRow ⟨writeWord off, some w⟩ (mnemonicOf (writeOf off w slot)) := by
  have place := toNat_writeWord off
  cases named with
  | misaligned unaligned =>
    exact hasRow_of_blocks misalignedBlocks_listed.2 (place ▸ exists_misalignedBlock rfl unaligned)
  | bufEntry inside => exact hasRow_of_blocks bufferBlocks_listed.2 (place ▸ exists_bufferBlock rfl inside)
  | register r => exact hasRow_writeInstr w r
  | unmapped free => exact hasRow_of_blocks unmappedBlocks_listed.2 (place ▸ exists_unmappedBlock rfl free)

theorem hasRow_event (e : Event) : HasRow ⟨eventWord e, none⟩ (mnemonicOf e.instr) := by
  apply hasRow_of_word
  cases e <;> decide

theorem hasRow_of_spells (h : Spells Config.block o i) : HasRow o (mnemonicOf i) := by
  cases h with
  | read named => exact hasRow_readOf named
  | write w named => exact hasRow_writeOf w named
  | event e => exact hasRow_event e
  | illegal _ illegal => exact hasRow_of_blocks illegalBlocks_listed (exists_illegalBlock illegal)

/-! ## The rows of a word -/

/-- With a suitable operand, or with none, every word spells an instruction. -/
theorem exists_spells (P : Params) (op : BitVec 16) : ∃ w i, Spells P ⟨op, w⟩ i := by
  rcases word_cases op with illegal | ⟨off, rfl⟩ | ⟨off, rfl⟩ | ⟨e, rfl⟩
  · exact ⟨none, _, .illegal ⟨op, none⟩ illegal⟩
  · exact ⟨none, _, .read (names_slotOf P off)⟩
  · exact ⟨some 0, _, .write 0 (names_slotOf P off)⟩
  · exact ⟨none, _, .event e⟩

/-- Only the CMD rows look at the operand (30_encoding R146). -/
theorem operand_any_of_hasWord {r : OpcodeRow} {op : BitVec 16} (mem : r ∈ opcodeRows) (word : r.hasWord op = true)
    (notCmd : op ≠ 0x400C) : r.operand = .any := by
  have looks : ∀ r ∈ opcodeRows, r.operand = .any ∨ (r.mask = 0xFFFF ∧ r.pattern = 0x400C) := by decide
  rcases looks r mem with any | ⟨mask, pattern⟩
  · exact any
  · have fixed := eq_of_beq word
    rw [mask, pattern, show (0xFFFF : BitVec 16) = BitVec.allOnes 16 from rfl, BitVec.and_allOnes] at fixed
    exact absurd fixed notCmd

theorem existsUnique_row {op : BitVec 16} (notCmd : op ≠ 0x400C) : ∃! r, r ∈ opcodeRows ∧ r.hasWord op = true := by
  obtain ⟨w, i, spelt⟩ := exists_spells Config.block op
  obtain ⟨r, mem, -, matched⟩ := hasRow_of_spells spelt
  refine ⟨r, ⟨mem, (rowMatches_iff.1 matched).1⟩, fun other ⟨otherMem, word⟩ => ?_⟩
  have otherMatched : rowMatches ⟨op, w⟩ other = true :=
    rowMatches_iff.2 ⟨word, by rw [OpcodeRow.hasOperand, operand_any_of_hasWord otherMem word notCmd]⟩
  have only := filter_eq_singleton (opcodeRows_disjoint ⟨op, w⟩) mem matched
  have listed := List.mem_filter.2 ⟨otherMem, otherMatched⟩
  rw [only] at listed
  exact List.mem_singleton.1 listed

/-- Settles O5: the spelt instruction gives the row that matches, and the rows' exclusion that it is the only one. -/
theorem decoderFollowsTheOpcodeTable : Obligations.DecoderFollowsTheOpcodeTable := by
  unfold Obligations.DecoderFollowsTheOpcodeTable
  refine ⟨fun _ => existsUnique_row, by decide, fun o i decoded => ?_⟩
  obtain ⟨r, mem, name, matched⟩ := hasRow_of_spells (spells_of_decode decoded)
  have only : (opcodeRows.filter (rowMatches o)) = [r] := filter_eq_singleton (opcodeRows_disjoint o) mem matched
  exact (congrArg (List.map fun r => r.mnemonic) only).trans (congrArg (fun n => [n]) name)

end Sys2Proof.Proofs
end

section
/-! 40_crc: the CRC generator. One bit step is a shift plus a feedback term that depends on one bit only, so the generator is
linear over XOR; the residue of R205 follows from that, and the host's operations on the generator are at the end. -/

namespace Sys2Proof.Proofs
open Sys2Proof Sys2Proof.Machine

/-! ## The bit step -/

/-- What the generator XORs into the shifted register: the polynomial when the feedback bit is 1 (40_crc R201). -/
def crcFeedback (f : Bool) : Half := if f then 0x8408 else 0

theorem crcFeedback_xor (f g : Bool) : crcFeedback (f ^^ g) = crcFeedback f ^^^ crcFeedback g := by
  revert f g
  decide

theorem getLsbD_crcFeedback (f : Bool) (k : Nat) :
    (crcFeedback f).getLsbD k = (f && (k == 3 || k == 10 || k == 15)) := by
  by_cases inside : k < 16
  · exact (by decide : ∀ (f : Bool) (k : Fin 16),
      (crcFeedback f).getLsbD k = (f && (k.val == 3 || k.val == 10 || k.val == 15))) f ⟨k, inside⟩
  · have noTap : (k == 3 || k == 10 || k == 15) = false := by grind
    rw [BitVec.getLsbD_of_ge _ _ (by omega), noTap, Bool.and_false]

/-- The condition of R201's `if` looks at one bit: bit 0 of the register, XORed with the input. -/
theorem crcCondition_iff (c : Half) (b : Bool) :
    (c ^^^ (BitVec.ofBool b).setWidth 16) &&& 1 = 1 ↔ (c.getLsbD 0 ^^ b) = true := by
  have inputBit : ((BitVec.ofBool b).setWidth 16).getLsbD 0 = b := by cases b <;> rfl
  have bitIsOne : ∀ f : Bool, (BitVec.ofBool f).setWidth 16 = 1#16 ↔ f = true := by decide
  rw [show (1 : Half) = 1#16 from rfl, BitVec.and_one_eq_setWidth_ofBool_getLsbD, bitIsOne, BitVec.getLsbD_xor, inputBit]

theorem crcBit_eq (c : Half) (b : Bool) : crcBit c b = c >>> 1 ^^^ crcFeedback (c.getLsbD 0 ^^ b) := by
  unfold crcBit crcFeedback
  simp only [crcCondition_iff]
  split
  · rfl
  · exact BitVec.xor_zero.symm

theorem getLsbD_crcBit (c : Half) (b : Bool) (k : Nat) :
    (crcBit c b).getLsbD k = (c.getLsbD (k + 1) ^^ ((c.getLsbD 0 ^^ b) && (k == 3 || k == 10 || k == 15))) := by
  rw [crcBit_eq, BitVec.getLsbD_xor, BitVec.getLsbD_ushiftRight, getLsbD_crcFeedback, Nat.add_comm]

/-- The bit step is linear: the shift and the feedback term both are. -/
theorem crcBit_xor (c d : Half) (a b : Bool) : crcBit (c ^^^ d) (a ^^ b) = crcBit c a ^^^ crcBit d b := by
  have feedback : ((c ^^^ d).getLsbD 0 ^^ (a ^^ b)) = ((c.getLsbD 0 ^^ a) ^^ (d.getLsbD 0 ^^ b)) := by
    rw [BitVec.getLsbD_xor]
    simp only [Bool.xor_assoc, Bool.xor_left_comm]
  rw [crcBit_eq, crcBit_eq c, crcBit_eq d, feedback, crcFeedback_xor, BitVec.ushiftRight_xor_distrib]
  ac_rfl

/-- Fed its own bit 0, the register has no feedback and only shifts. -/
theorem crcBit_own_bit (c : Half) : crcBit c (c.getLsbD 0) = c >>> 1 := by
  rw [crcBit_eq, Bool.xor_self]
  exact BitVec.xor_zero

/-- The register's bits in their order, fed to it one by one, are shifted out one by one. -/
theorem crcBit_ushiftRight (c : Half) (k : Nat) : crcBit (c >>> k) (c.getLsbD k) = c >>> (k + 1) := by
  have own : c.getLsbD k = (c >>> k).getLsbD 0 := by rw [BitVec.getLsbD_ushiftRight, Nat.add_zero]
  rw [own, crcBit_own_bit, BitVec.shiftRight_add]

/-! ## The byte step -/

theorem crcByte_eq (c : Half) (x : Byte) : crcByte c x =
    crcBit (crcBit (crcBit (crcBit (crcBit (crcBit (crcBit (crcBit c (x.getLsbD 0)) (x.getLsbD 1)) (x.getLsbD 2))
      (x.getLsbD 3)) (x.getLsbD 4)) (x.getLsbD 5)) (x.getLsbD 6)) (x.getLsbD 7) := rfl

theorem crcByte_xor (c d : Half) (x y : Byte) : crcByte (c ^^^ d) (x ^^^ y) = crcByte c x ^^^ crcByte d y := by
  simp only [crcByte_eq, BitVec.getLsbD_xor, crcBit_xor]

/-- The register's low byte, fed to it, shifts it out. -/
theorem crcByte_own_byte (c : Half) : crcByte c (c.extractLsb' 0 8) = c >>> 8 := by
  have first : crcBit c (c.getLsbD 0) = c >>> (0 + 1) := crcBit_own_bit c
  have bit : ∀ k < 8, (c.extractLsb' 0 8).getLsbD k = c.getLsbD k := fun k hk => by simp [hk]
  rw [crcByte_eq, bit 0 (by decide), bit 1 (by decide), bit 2 (by decide), bit 3 (by decide), bit 4 (by decide),
    bit 5 (by decide), bit 6 (by decide), bit 7 (by decide), first]
  simp only [crcBit_ushiftRight]

/-- Settles O51: the bit step by its equation, the byte step by computing its list of eight bits. -/
theorem crcStepIsTheReflectedShift : Obligations.CrcStepIsTheReflectedShift := by
  unfold Obligations.CrcStepIsTheReflectedShift
  exact ⟨getLsbD_crcBit, crcByte_eq⟩

/-! ## The residue (40_crc R205) -/

/-- A complemented byte is that byte plus 0xFF, so its effect is the byte's plus that of 0xFF alone. -/
theorem crcByte_not_own_byte (c d : Half) :
    crcByte (c ^^^ d) (~~~c.extractLsb' 0 8) = c >>> 8 ^^^ crcByte d 0xFF := by
  have complement : ~~~c.extractLsb' 0 8 = c.extractLsb' 0 8 ^^^ 0xFF := BitVec.xor_allOnes.symm
  rw [complement, crcByte_xor, crcByte_own_byte]

/-- The complement of any register value, low byte first, leaves what the two bytes 0xFF alone leave from 0: the register's
own bits cancel out. -/
theorem crcByte_complement (c : Half) :
    crcByte (crcByte c ((~~~c).extractLsb' 0 8)) ((~~~c).extractLsb' 8 8) = 0xF0B8 := by
  have low : (~~~c).extractLsb' 0 8 = ~~~c.extractLsb' 0 8 := BitVec.extractLsb'_not_of_lt (by decide)
  have high : (~~~c).extractLsb' 8 8 = ~~~(c >>> 8).extractLsb' 0 8 := by
    ext k hk
    simp only [BitVec.getElem_extractLsb', BitVec.getLsbD_not, BitVec.getElem_not, BitVec.getLsbD_ushiftRight, Nat.zero_add]
    rw [decide_eq_true (by omega : 8 + k < 16), Bool.true_and]
  have firstOnes : crcByte 0 0xFF = 0x0F78 := by decide
  have secondOnes : crcByte 0x0F78 0xFF = 0xF0B8 := by decide
  have shiftedOut : c >>> 8 >>> 8 = 0#16 := by
    rw [← BitVec.shiftRight_add]
    exact BitVec.ushiftRight_eq_zero (by decide)
  calc crcByte (crcByte c ((~~~c).extractLsb' 0 8)) ((~~~c).extractLsb' 8 8)
      = crcByte (crcByte (c ^^^ 0) (~~~c.extractLsb' 0 8)) (~~~(c >>> 8).extractLsb' 0 8) := by
        rw [low, high, show c ^^^ 0 = c from BitVec.xor_zero]
    _ = c >>> 8 >>> 8 ^^^ crcByte (crcByte 0 0xFF) 0xFF := by rw [crcByte_not_own_byte, crcByte_not_own_byte]
    _ = 0xF0B8 := by rw [shiftedOut, firstOnes, secondOnes, BitVec.zero_xor]

theorem crcOf_append (body tail : List Byte) : crcOf (body ++ tail) = tail.foldl crcByte (crcOf body) :=
  List.foldl_append

/-- Settles O52: the FCS is the complement of the register, and its two bytes are fed after the body. -/
theorem crcResidueIsFixed : Obligations.CrcResidueIsFixed := by
  unfold Obligations.CrcResidueIsFixed
  intro body
  constructor
  · rw [fcsOf, BitVec.not_not, BitVec.xor_self]
    rfl
  · rw [crcOf_append]
    exact crcByte_complement (crcOf body)

/-! ## The host's operations on the generator -/

/-- Settles O18: RDATA is the register widened with zeros (40_crc R209, R210). -/
theorem crcAndFcsReadTheirRegisters : Obligations.CrcAndFcsReadTheirRegisters := by
  unfold Obligations.CrcAndFcsReadTheirRegisters
  intro s
  rw [BitVec.ofNat_toNat, BitVec.ofNat_toNat]
  exact ⟨rfl, rfl⟩

theorem operandByte_eq_ofNat (w : Word) : operandByte w = BitVec.ofNat 8 w.toNat := by
  rw [BitVec.ofNat_toNat, BitVec.setWidth_eq_extractLsb' (by decide), operandByte]

theorem busy_eq_false_iff {s : State} : s.busy = false ↔ s.seqState = .ready := by simp [State.busy]

theorem unlessBusy_of_ready {s : State} (f : State → State) (ready : s.seqState = .ready) : unlessBusy f s = f s := by
  rw [unlessBusy, busy_eq_false_iff.2 ready, if_neg Bool.false_ne_true]

theorem unlessBusy_of_busy {s : State} (f : State → State) (busy : s.seqState ≠ .ready) : unlessBusy f s = accErr s := by
  rw [unlessBusy, if_pos (busy_iff.2 busy)]

theorem exec_wrCrcData (w : Word) (s : State) : exec (.wrCrcData w) s =
    .next (respond .none (unlessBusy (fun s => { s with crc := crcByte s.crc (operandByte w) }) s)) := rfl

theorem exec_crcInit (s : State) : exec .crcInit s =
    .next (respond .none (if s.busy then reject .busy s else { s with crc := 0xFFFF })) := rfl

/-- Settles O27, by the two sides of the BUSY lock. -/
theorem crcDataWriteFeedsAByte : Obligations.CrcDataWriteFeedsAByte := by
  unfold Obligations.CrcDataWriteFeedsAByte
  intro w s
  constructor
  · intro ready
    rw [exec_wrCrcData, unlessBusy_of_ready _ ready, operandByte_eq_ofNat]
    rfl
  · intro busy
    rw [exec_wrCrcData, unlessBusy_of_busy _ busy]
    rfl

/-- Settles O28, by whether a session runs. -/
theorem crcInitRestartsTheGenerator : Obligations.CrcInitRestartsTheGenerator := by
  unfold Obligations.CrcInitRestartsTheGenerator
  intro s
  constructor
  · intro ready
    rw [exec_crcInit, busy_eq_false_iff.2 ready, if_neg Bool.false_ne_true]
    rfl
  · intro busy
    rw [exec_crcInit, if_pos (busy_iff.2 busy)]
    rfl

end Sys2Proof.Proofs
end

section
/-! 41_hdlc_framer R232 and R236: the flag count of a duration, and `next_bit()` as one equation per phase. -/

namespace Sys2Proof.Proofs
open Sys2Proof Sys2Proof.Machine

/-! ## The flag count -/

/-- Settles O31: both ceilings of R232 are linear arithmetic. -/
theorem flagCountIsLeast : Obligations.FlagCountIsLeast := by
  unfold Obligations.FlagCountIsLeast
  refine ⟨fun ms n => ?_, fun _ least most => nflags_preamble ⟨least, most⟩, fun _ least most => nflags_tail ⟨least, most⟩,
    by decide⟩
  unfold nflags flagBits ceilDiv
  omega

/-! ## `next_bit()` phase by phase -/

variable {s : State}

theorem enterFrame_of_ne_preamble (h : s.encState ≠ .preamble) : enterFrame s = s := if_neg fun k => h k.1

theorem enterTail_of_ne_frame (h : s.encState ≠ .frame) : enterTail s = s := if_neg fun k => h k.1

theorem enterDone_of_ne_tail (h : s.encState ≠ .tail) : enterDone s = s := if_neg fun k => h k.1

/-- END is returned in IDLE and DONE, and nothing changes (41_hdlc_framer R242). -/
theorem nextBit_of_ended (h : s.encState = .idle ∨ s.encState = .done) : nextBit s = (.endOfSession, s) := by
  have phase : framerPhase s = s := by
    rcases h with h | h <;>
      rw [framerPhase, enterFrame_of_ne_preamble (by simp [h]), enterTail_of_ne_frame (by simp [h]),
        enterDone_of_ne_tail (by simp [h])]
  rcases h with h | h <;> simp [nextBit, phase, framerEmit, h]

theorem framerPhase_of_tail_over (tail : s.encState = .tail) (spent : s.flagsLeft = 0) :
    framerPhase s = { s with encState := .done } := by
  rw [framerPhase, enterFrame_of_ne_preamble (by simp [tail]), enterTail_of_ne_frame (by simp [tail]), enterDone,
    if_pos ⟨tail, spent⟩]

theorem nextBit_of_tail_over (tail : s.encState = .tail) (spent : s.flagsLeft = 0) :
    nextBit s = (.endOfSession, { s with encState := .done }) := by
  rw [nextBit, framerPhase_of_tail_over tail spent]
  rfl

theorem framerPhase_of_flags_left (phase : s.encState = .preamble ∨ s.encState = .tail) (more : s.flagsLeft ≠ 0) :
    framerPhase s = s := by
  rw [framerPhase, enterFrame, if_neg fun k => more k.2, enterTail_of_ne_frame (by rcases phase with h | h <;> simp [h]),
    enterDone, if_neg fun k => more k.2]

theorem nextBit_of_flags_left (phase : s.encState = .preamble ∨ s.encState = .tail) (more : s.flagsLeft ≠ 0) :
    nextBit s = flagBitStep s := by
  rw [nextBit, framerPhase_of_flags_left phase more]
  rcases phase with h | h <;> simp [framerEmit, h]

/-- The call that finds the preamble over is a call in FRAME at its first bit. -/
theorem nextBit_of_preamble_over (preamble : s.encState = .preamble) (spent : s.flagsLeft = 0) :
    nextBit s = nextBit { s with encState := .frame, byteIdx := 0, bitPos := 0, ones := 0 } := by
  have first : enterFrame s = { s with encState := .frame, byteIdx := 0, bitPos := 0, ones := 0 } := if_pos ⟨preamble, spent⟩
  rw [nextBit, nextBit, framerPhase, framerPhase, first, enterFrame_of_ne_preamble (by simp)]

/-- The call that finds the frame over is a call in TAIL at its first bit. -/
theorem nextBit_of_frame_over (frame : s.encState = .frame) (ones : s.ones ≠ 5)
    (spent : s.byteIdx.toNat = s.latLen.toNat + 2) :
    nextBit s = nextBit { s with encState := .tail, flagsLeft := s.latTail, bitPos := 0 } := by
  have first : enterTail s = { s with encState := .tail, flagsLeft := s.latTail, bitPos := 0 } := if_pos ⟨frame, ones, spent⟩
  rw [nextBit, nextBit, framerPhase, framerPhase, enterFrame_of_ne_preamble (by simp [frame]), first,
    enterFrame_of_ne_preamble (by simp), enterTail_of_ne_frame (by simp)]

theorem framerPhase_of_frame (frame : s.encState = .frame)
    (inside : ¬ (s.ones ≠ 5 ∧ s.byteIdx.toNat = s.latLen.toNat + 2)) : framerPhase s = s := by
  rw [framerPhase, enterFrame_of_ne_preamble (by simp [frame]), enterTail, if_neg fun k => inside k.2,
    enterDone_of_ne_tail (by simp [frame])]

theorem nextBit_of_five_ones (frame : s.encState = .frame) (five : s.ones = 5) :
    nextBit s = (.bit false, { s with ones := 0 }) := by
  rw [nextBit, framerPhase_of_frame frame fun k => k.1 five]
  simp [framerEmit, frame, five, stuffedBitStep]

theorem nextBit_of_frame (frame : s.encState = .frame) (ones : s.ones ≠ 5)
    (inside : s.byteIdx.toNat ≠ s.latLen.toNat + 2) : nextBit s = frameBitStep s := by
  rw [nextBit, framerPhase_of_frame frame fun k => inside k.2]
  rw [framerEmit, frame]
  exact if_neg ones

/-! ## The bit of a flag and the bit of the frame -/

/-- A flag is a 0, six 1s and a 0 (41_hdlc_framer R231). -/
theorem getLsbD_flagByte (k : BitVec 3) : flagByte.getLsbD k.toNat = decide (k ≠ 0 ∧ k ≠ 7) := by
  revert k
  decide

/-- The CRC register once the frame's bit is fed: body bits count, FCS bits do not (41_hdlc_framer R238). -/
def fedCrc (s : State) : Half :=
  if s.byteIdx.toNat < s.latLen.toNat then crcBit s.crc s.frameBit else s.crc

theorem feedCrc_frameBit (s : State) : feedCrc s.frameBit s = { s with crc := fedCrc s } := by
  unfold feedCrc fedCrc
  split <;> rfl

theorem advanceBit_eq (s : State) : advanceBit s = { s with
    bitPos := if s.bitPos = 7 then 0 else s.bitPos + 1
    byteIdx := if s.bitPos = 7 then s.byteIdx + 1 else s.byteIdx
    fcs := if s.bitPos = 7 ∧ s.byteIdx + 1 = s.latLen then ~~~s.crc else s.fcs } := by
  unfold advanceBit
  by_cases last : s.bitPos = 7
  · by_cases latch : s.byteIdx + 1 = s.latLen <;> simp only [latch, last, and_self, and_false, if_true, if_false]
  · simp only [last, false_and, if_false]

/-- A data bit of the frame, every field that it writes at once (41_hdlc_framer R236). -/
theorem frameBitStep_eq (s : State) : frameBitStep s = (.bit s.frameBit, { s with
    crc := fedCrc s
    bitPos := if s.bitPos = 7 then 0 else s.bitPos + 1
    byteIdx := if s.bitPos = 7 then s.byteIdx + 1 else s.byteIdx
    fcs := if s.bitPos = 7 ∧ s.byteIdx + 1 = s.latLen then ~~~fedCrc s else s.fcs
    ones := if s.frameBit then s.ones + 1 else 0 }) := by
  rw [frameBitStep, feedCrc_frameBit, advanceBit_eq]
  rfl

/-- The frame's bit comes from the body before its end and from the FCS, low byte first, after it (41_hdlc_framer R234). -/
theorem frameBit_eq (inside : s.byteIdx.toNat < s.latLen.toNat + 2) :
    s.frameBit = if s.byteIdx.toNat < s.latLen.toNat then (s.bufByte s.byteIdx.toNat).getLsbD s.bitPos.toNat
      else s.fcs.getLsbD (8 * (s.byteIdx.toNat - s.latLen.toNat) + s.bitPos.toNat) := by
  have position := s.bitPos.isLt
  unfold State.frameBit frameByte
  by_cases body : s.byteIdx.toNat < s.latLen.toNat
  · rw [if_pos body, if_pos body]
  · rw [if_neg body, if_neg body]
    by_cases low : s.byteIdx.toNat = s.latLen.toNat
    · simp [low, position]
    · have high : s.byteIdx.toNat = s.latLen.toNat + 1 := by omega
      simp [high, position]

/-- Settles O37, each clause by the equation of its phase. -/
theorem nextBitFollowsItsPhase : Obligations.NextBitFollowsItsPhase := by
  unfold Obligations.NextBitFollowsItsPhase
  refine fun s => ⟨nextBit_of_ended, nextBit_of_tail_over, fun phase more => ?_, nextBit_of_preamble_over,
    nextBit_of_frame_over, nextBit_of_five_ones, fun frame ones inside => ?_⟩
  · rw [nextBit_of_flags_left phase more, flagBitStep, getLsbD_flagByte]
  · refine ⟨s.frameBit, frameBit_eq inside, fedCrc s, rfl, ?_⟩
    rw [nextBit_of_frame frame ones (by omega), frameBitStep_eq]

end Sys2Proof.Proofs
end

section
/-! 41_hdlc_framer R243, R245: the bit stream of a whole session. Each phase sends a list of bits and leaves the framer at the
start of the next one, and the phases are put together; in FRAME the position is tied to a position in the reference frame. -/

namespace Sys2Proof.Proofs
open Sys2Proof Sys2Proof.Machine

/-! ## Sending bits -/

/-- What is seen of `n` calls of `next_bit()`: the bits, and the CRC and FCS registers after them. -/
def observe (n : Nat) (s : State) : List FramerOutput × Half × Half :=
  ((pullBits n s).1, (pullBits n s).2.crc, (pullBits n s).2.fcs)

/-- The framer sends `bits` from `s`, and from there on nothing tells it from the framer in `t`. -/
def Sends (bits : List Bool) (s t : State) : Prop :=
  ∀ n, observe (bits.length + n) s = (bits.map FramerOutput.bit ++ (observe n t).1, (observe n t).2)

theorem observe_succ (n : Nat) (s : State) :
    observe (n + 1) s = ((nextBit s).1 :: (observe n (nextBit s).2).1, (observe n (nextBit s).2).2) := rfl

variable {s s₀ t u : State} {xs ys : List Bool}

theorem Sends.refl (s : State) : Sends [] s s := fun n => by rw [List.length_nil, Nat.zero_add]; rfl

theorem Sends.trans (first : Sends xs s t) (second : Sends ys t u) : Sends (xs ++ ys) s u := fun n => by
  rw [List.length_append, Nat.add_assoc, first, second, List.map_append, List.append_assoc]

theorem sends_singleton {b : Bool} (h : nextBit s = (.bit b, t)) : Sends [b] s t := fun n => by
  rw [List.length_singleton, Nat.add_comm, observe_succ, h]
  rfl

/-- A change of phase that the next call makes before it returns its bit. -/
theorem sends_nil (next : nextBit s = nextBit t) (crc : s.crc = t.crc) (fcs : s.fcs = t.fcs) : Sends [] s t := fun n => by
  rw [List.length_nil, Nat.zero_add]
  cases n with
  | zero => exact congrArg₂ (fun c f => ([], c, f)) crc fcs
  | succ n => rw [observe_succ, observe_succ, next]; rfl

/-! ## Flags -/

/-- The framer is at a flag: in PREAMBLE or TAIL with a flag left. -/
def AtFlag (s : State) : Prop := (s.encState = .preamble ∨ s.encState = .tail) ∧ s.flagsLeft ≠ 0

theorem sends_flagBit (flag : AtFlag s) (notLast : s.bitPos ≠ 7) :
    Sends [flagByte.getLsbD s.bitPos.toNat] s { s with bitPos := s.bitPos + 1 } := by
  refine sends_singleton ?_
  rw [nextBit_of_flags_left flag.1 flag.2, flagBitStep, if_neg notLast]

theorem sends_lastFlagBit (flag : AtFlag s) (last : s.bitPos = 7) :
    Sends [false] s { s with bitPos := 0, flagsLeft := s.flagsLeft - 1 } := by
  refine sends_singleton ?_
  rw [nextBit_of_flags_left flag.1 flag.2, flagBitStep, if_pos last, last]
  rfl

theorem sends_flagBits (flag : AtFlag s) (start : s.bitPos = 0) (k : Nat) (inside : k ≤ 7) :
    Sends (flagStream.take k) s { s with bitPos := BitVec.ofNat 3 k } := by
  induction k with
  | zero =>
    have unmoved : { s with bitPos := BitVec.ofNat 3 0 } = s := congrArg (fun q => { s with bitPos := q }) start.symm
    rw [unmoved]
    exact Sends.refl s
  | succ k ih =>
    have bit : flagStream[k]? = some (flagByte.getLsbD (BitVec.ofNat 3 k).toNat) :=
      (by decide : ∀ k < 7, flagStream[k]? = some (flagByte.getLsbD (BitVec.ofNat 3 k).toNat)) k inside
    have notLast : BitVec.ofNat 3 k ≠ 7 := by bv_omega
    rw [List.take_add_one, bit, BitVec.ofNat_add]
    exact (ih (by omega)).trans (sends_flagBit (s := { s with bitPos := BitVec.ofNat 3 k }) flag notLast)

theorem sends_flag (flag : AtFlag s) (start : s.bitPos = 0) :
    Sends flagStream s { s with bitPos := 0, flagsLeft := s.flagsLeft - 1 } :=
  (sends_flagBits flag start 7 le_rfl).trans (sends_lastFlagBit (s := { s with bitPos := 7 }) flag rfl)

/-- PREAMBLE and TAIL send the flags that are left (41_hdlc_framer R237, R241). -/
theorem sends_flags (phase : s.encState = .preamble ∨ s.encState = .tail) (start : s.bitPos = 0) :
    Sends (flagsStream s.flagsLeft.toNat) s { s with flagsLeft := 0, bitPos := 0 } := by
  generalize count : s.flagsLeft.toNat = m
  induction m generalizing s with
  | zero =>
    have unmoved : { s with flagsLeft := 0, bitPos := 0 } = s := by
      rw [← start, ← (BitVec.eq_of_toNat_eq count : s.flagsLeft = 0)]
    rw [unmoved]
    exact Sends.refl s
  | succ m ih =>
    have more : s.flagsLeft ≠ 0 := fun none => by simp [none] at count
    have fewer : (s.flagsLeft - 1).toNat = m := by bv_omega
    exact (sends_flag ⟨phase, more⟩ start).trans
      (ih (s := { s with bitPos := 0, flagsLeft := s.flagsLeft - 1 }) phase rfl fewer)

theorem length_flagsStream (n : Nat) : (flagsStream n).length = 8 * n := by
  simp [flagsStream, flagStream, Nat.mul_comm]

/-! ## Stuffing -/

theorem stuff_five (bits : List Bool) : stuff 5 bits = false :: stuff 0 bits := by
  cases bits <;> rfl

theorem stuff_cons {run : Nat} (notFive : run ≠ 5) (b : Bool) (bits : List Bool) :
    stuff run (b :: bits) = b :: stuff (if b then run + 1 else 0) bits := if_neg notFive

theorem stuff_nil {run : Nat} (notFive : run ≠ 5) : stuff run [] = [] := if_neg notFive

theorem unstuff_five (b : Bool) (bits : List Bool) : unstuff 5 (b :: bits) = unstuff 0 bits := rfl

theorem unstuff_cons {run : Nat} (notFive : run ≠ 5) (b : Bool) (bits : List Bool) :
    unstuff run (b :: bits) = b :: unstuff (if b then run + 1 else 0) bits := if_neg notFive

/-- What stuffing inserts, unstuffing removes. -/
theorem unstuff_stuff (run : Nat) (bits : List Bool) : unstuff run (stuff run bits) = bits := by
  have stuffed (bits : List Bool) : unstuff 5 (stuff 5 bits) = unstuff 0 (stuff 0 bits) := by rw [stuff_five, unstuff_five]
  induction bits generalizing run with
  | nil =>
    by_cases five : run = 5
    · rw [five, stuffed]; rfl
    · rw [stuff_nil five]; rfl
  | cons b bits ih =>
    have data (run : Nat) (notFive : run ≠ 5) : unstuff run (stuff run (b :: bits)) = b :: bits := by
      rw [stuff_cons notFive, unstuff_cons notFive, ih]
    by_cases five : run = 5
    · rw [five, stuffed, data 0 (by decide)]
    · exact data run five

/-! ## The reference frame -/

/-- Bit `k` of byte `i` is bit `8 i + k` of the stream. -/
theorem getElem?_flatMap_lsbFirst (bytes : List Byte) (i k : Nat) (bit : k < 8) :
    (bytes.flatMap lsbFirst)[8 * i + k]? = bytes[i]?.map fun x => x.getLsbD k := by
  induction bytes generalizing i with
  | nil => rfl
  | cons x bytes ih =>
    have length : (lsbFirst x).length = 8 := rfl
    rw [List.flatMap_cons]
    cases i with
    | zero =>
      rw [List.getElem?_append_left (by omega)]
      simp [lsbFirst, bit]
    | succ i =>
      rw [List.getElem?_append_right (by omega), List.getElem?_cons_succ, ← ih]
      congr 1
      omega

theorem length_flatMap_lsbFirst (bytes : List Byte) : (bytes.flatMap lsbFirst).length = 8 * bytes.length := by
  simp [List.length_flatMap, lsbFirst, Nat.mul_comm]

theorem length_frameStream (body : List Byte) : (frameStream body).length = 8 * (body.length + 2) := by
  rw [frameStream, length_flatMap_lsbFirst, List.length_append]
  rfl

@[simp] theorem length_body (s : State) : s.body.length = s.latLen.toNat := by simp [State.body]

/-- The CRC of a body takes its bits in the order of the frame (40_crc R202, R203). -/
theorem crcOf_eq_foldl (body : List Byte) : crcOf body = (body.flatMap lsbFirst).foldl crcBit 0xFFFF :=
  List.foldl_flatMap.symm

/-! ## The frame -/

/-- The framer in FRAME after `p` data bits of the frame of `s₀`: its position, and what it has made of the body's bits. -/
structure InFrame (s₀ : State) (p : Nat) (s : State) : Prop where
  only : FramerOnly s₀ s
  phase : s.encState = .frame
  place : 8 * s.byteIdx.toNat + s.bitPos.toNat = p
  crc : s.crc = ((s₀.body.flatMap lsbFirst).take p).foldl crcBit 0xFFFF
  fcs : 8 * s₀.latLen.toNat ≤ p → s.fcs = fcsOf s₀.body

variable {p : Nat}

theorem InFrame.latLen (h : InFrame s₀ p s) : s.latLen = s₀.latLen := (congrArg State.latLen h.only).trans rfl

theorem InFrame.body (h : InFrame s₀ p s) : s.body = s₀.body := (congrArg State.body h.only).trans rfl

theorem InFrame.crc_of_body (h : InFrame s₀ p s) (past : 8 * s₀.latLen.toNat ≤ p) : s.crc = crcOf s₀.body := by
  rw [h.crc, List.take_of_length_le (by rw [length_flatMap_lsbFirst, length_body]; exact past), crcOf_eq_foldl]

/-- The byte the framer reads is the reference frame's (41_hdlc_framer R234). -/
theorem InFrame.frameByte (h : InFrame s₀ p s) (inside : p < 8 * (s₀.latLen.toNat + 2)) :
    (s₀.body ++ [(fcsOf s₀.body).extractLsb' 0 8, (fcsOf s₀.body).extractLsb' 8 8])[s.byteIdx.toNat]? =
      some (frameByte s s.byteIdx.toNat) := by
  have place := h.place
  have position := s.bitPos.isLt
  unfold Machine.frameByte
  rw [h.latLen]
  by_cases body : s.byteIdx.toNat < s₀.latLen.toNat
  · rw [List.getElem?_append_left (by rwa [length_body]), ← h.body, if_pos body]
    simp [State.body, h.latLen, body]
  · rw [List.getElem?_append_right (by rw [length_body]; omega), length_body, if_neg body, h.fcs (by omega)]
    by_cases low : s.byteIdx.toNat = s₀.latLen.toNat
    · simp [low]
    · have high : s.byteIdx.toNat = s₀.latLen.toNat + 1 := by omega
      simp [high]

theorem InFrame.frameBit (h : InFrame s₀ p s) (inside : p < 8 * (s₀.latLen.toNat + 2)) :
    (frameStream s₀.body)[p]? = some s.frameBit := by
  rw [frameStream, ← h.place, getElem?_flatMap_lsbFirst _ _ _ s.bitPos.isLt, h.frameByte inside]
  rfl

/-- The frame's bit is the body's, before the end of the body. -/
theorem InFrame.bodyBit (h : InFrame s₀ p s) (inside : p < 8 * s₀.latLen.toNat) :
    (s₀.body.flatMap lsbFirst)[p]? = some s.frameBit := by
  rw [← h.frameBit (by omega), frameStream, List.flatMap_append,
    List.getElem?_append_left (by rwa [length_flatMap_lsbFirst, length_body])]

theorem InFrame.fedCrc (h : InFrame s₀ p s) :
    fedCrc s = ((s₀.body.flatMap lsbFirst).take (p + 1)).foldl crcBit 0xFFFF := by
  have place := h.place
  have position := s.bitPos.isLt
  have length : (s₀.body.flatMap lsbFirst).length = 8 * s₀.latLen.toNat := by rw [length_flatMap_lsbFirst, length_body]
  unfold Proofs.fedCrc
  rw [h.latLen]
  split
  · rw [List.take_add_one, h.bodyBit (by omega), Option.toList_some, List.foldl_concat, h.crc]
  · rw [h.crc, List.take_of_length_le (by omega), List.take_of_length_le (by omega)]

/-- A data bit moves the framer one bit on in the frame; the last one of the body latches the FCS (41_hdlc_framer R238). -/
theorem InFrame.step (h : InFrame s₀ p s) (inside : p < 8 * (s₀.latLen.toNat + 2)) (long : 1 ≤ s₀.latLen.toNat)
    (short : s₀.latLen.toNat ≤ 328) : InFrame s₀ (p + 1) (frameBitStep s).2 := by
  have place := h.place
  have position := s.bitPos.isLt
  have fed := h.fedCrc
  refine ⟨h.only.trans (frameBitStep_framerOnly s), (frameBitStep_encState s).trans h.phase, ?_, ?_, fun past => ?_⟩
  · rw [frameBitStep_eq]
    dsimp only
    split <;> bv_omega
  · rw [frameBitStep_eq]
    exact fed
  · rw [frameBitStep_eq]
    dsimp only
    rw [h.latLen]
    split
    case isTrue latch =>
      rw [fed, List.take_of_length_le (by rw [length_flatMap_lsbFirst, length_body]; omega), fcsOf, crcOf_eq_foldl]
    case isFalse notLatch =>
      refine h.fcs ?_
      by_contra before
      refine notLatch ⟨?_, ?_⟩ <;> bv_omega

theorem InFrame.clearOnes (h : InFrame s₀ p s) : InFrame s₀ p { s with ones := 0 } :=
  ⟨h.only.trans rfl, h.phase, h.place, h.crc, h.fcs⟩

theorem InFrame.sends_bit (h : InFrame s₀ p s) (inside : p < 8 * (s₀.latLen.toNat + 2)) (notFive : s.ones ≠ 5) :
    Sends [s.frameBit] s (frameBitStep s).2 := by
  have place := h.place
  refine sends_singleton ?_
  rw [nextBit_of_frame h.phase notFive (by rw [h.latLen]; omega)]
  rfl

/-- From `s` the framer sends what is left of the frame of `s₀` after `p` data bits, stuffed from the run of 1s it is in, and is
then at the end of the frame with no stuffed 0 due. -/
def SendsRest (s₀ : State) (p : Nat) (s : State) : Prop :=
  ∃ t, Sends (stuff s.ones.toNat ((frameStream s₀.body).drop p)) s t ∧
    InFrame s₀ (8 * (s₀.latLen.toNat + 2)) t ∧ t.ones ≠ 5

theorem sendsRest_of_end (h : InFrame s₀ (8 * (s₀.latLen.toNat + 2)) s) (notFive : s.ones ≠ 5) :
    SendsRest s₀ (8 * (s₀.latLen.toNat + 2)) s := by
  refine ⟨s, ?_, h, notFive⟩
  rw [List.drop_of_length_le (by rw [length_frameStream, length_body]),
    stuff_nil fun five => notFive (BitVec.eq_of_toNat_eq five)]
  exact Sends.refl s

/-- The stuffed 0 comes before what is left (41_hdlc_framer R239). -/
theorem sendsRest_of_five (h : InFrame s₀ p s) (five : s.ones = 5) (rest : SendsRest s₀ p { s with ones := 0 }) :
    SendsRest s₀ p s := by
  obtain ⟨t, sent, last⟩ := rest
  refine ⟨t, ?_, last⟩
  rw [five, show (5 : BitVec 3).toNat = 5 from rfl, stuff_five]
  exact (sends_singleton (nextBit_of_five_ones h.phase five)).trans sent

/-- Below five the run of 1s does not wrap. -/
theorem toNat_frameBitStep_ones (below : s.ones.toNat < 5) :
    (frameBitStep s).2.ones.toNat = if s.frameBit then s.ones.toNat + 1 else 0 := by
  rw [frameBitStep_eq]
  dsimp only
  split
  · bv_omega
  · rfl

theorem sendsRest_of_step (h : InFrame s₀ p s) (inside : p < 8 * (s₀.latLen.toNat + 2)) (ones : s.ones.toNat < 5)
    (rest : SendsRest s₀ (p + 1) (frameBitStep s).2) : SendsRest s₀ p s := by
  obtain ⟨t, sent, last⟩ := rest
  refine ⟨t, ?_, last⟩
  obtain ⟨length, bit⟩ := List.getElem?_eq_some_iff.1 (h.frameBit inside)
  rw [List.drop_eq_getElem_cons length, bit, stuff_cons (by omega), ← toNat_frameBitStep_ones ones]
  exact (h.sends_bit inside fun five => by simp [five] at ones).trans sent

/-- After the stuffed 0 the run is 0, so it is enough to look at runs below five. -/
theorem InFrame.sendsRest_of_below (h : InFrame s₀ p s) (ones : s.ones.toNat ≤ 5)
    (below : ∀ s, InFrame s₀ p s → s.ones.toNat < 5 → SendsRest s₀ p s) : SendsRest s₀ p s := by
  by_cases five : s.ones = 5
  · exact sendsRest_of_five h five (below _ h.clearOnes (by simp))
  · exact below s h (by bv_omega)

/-- FRAME sends the frame, the stuffed 0 after a last run of five included (41_hdlc_framer R235, R240). -/
theorem InFrame.sendsRest (h : InFrame s₀ p s) (long : 1 ≤ s₀.latLen.toNat) (short : s₀.latLen.toNat ≤ 328)
    (ones : s.ones.toNat ≤ 5) (inside : p ≤ 8 * (s₀.latLen.toNat + 2)) : SendsRest s₀ p s := by
  obtain ⟨m, left⟩ := Nat.exists_eq_add_of_le inside
  induction m generalizing p s with
  | zero =>
    obtain rfl : p = 8 * (s₀.latLen.toNat + 2) := left.symm
    exact h.sendsRest_of_below ones fun s k below => sendsRest_of_end k fun five => by simp [five] at below
  | succ m ih =>
    refine h.sendsRest_of_below ones fun s k below => ?_
    have next : (frameBitStep s).2.ones.toNat ≤ 5 := by
      rw [toNat_frameBitStep_ones below]
      split <;> omega
    exact sendsRest_of_step k (by omega) below (ih (k.step (by omega) long short) next (by omega) (by omega))

/-! ## The session -/

/-- The framer at the first bit of FRAME, as the preamble's end leaves a fresh framer. -/
theorem inFrame_of_fresh (fresh : s.framerFresh) (long : 1 ≤ s.latLen.toNat) :
    InFrame s 0 { s with encState := .frame, flagsLeft := 0, byteIdx := 0, bitPos := 0, ones := 0 } := by
  obtain ⟨-, -, -, -, -, crc⟩ := fresh
  exact ⟨rfl, rfl, rfl, crc, fun past => absurd past (by omega)⟩

/-- A fresh framer sends its preamble flags and is at the first bit of FRAME (41_hdlc_framer R237). -/
theorem sends_preamble (fresh : s.framerFresh) : Sends (flagsStream s.latPre.toNat) s
    { s with encState := .frame, flagsLeft := 0, byteIdx := 0, bitPos := 0, ones := 0 } := by
  obtain ⟨phase, flags, start, -, -, -⟩ := fresh
  have sent := sends_flags (.inl phase) start
  rw [flags] at sent
  have ended := nextBit_of_preamble_over (s := { s with flagsLeft := 0, bitPos := 0 }) phase rfl
  simpa using sent.trans (sends_nil ended rfl rfl)

/-- From the end of the frame the framer sends its tail flags and is done (41_hdlc_framer R241, R242). -/
theorem sends_tail (frame : s.encState = .frame) (notFive : s.ones ≠ 5) (last : s.byteIdx.toNat = s.latLen.toNat + 2) :
    Sends (flagsStream s.latTail.toNat) s { s with encState := .done, flagsLeft := 0, bitPos := 0 } := by
  have enter : Sends [] s { s with encState := .tail, flagsLeft := s.latTail, bitPos := 0 } :=
    sends_nil (nextBit_of_frame_over frame notFive last) rfl rfl
  have flags := sends_flags (s := { s with encState := .tail, flagsLeft := s.latTail, bitPos := 0 }) (.inr rfl) rfl
  have leave : Sends [] { s with encState := .tail, flagsLeft := 0, bitPos := 0 }
      { s with encState := .done, flagsLeft := 0, bitPos := 0 } :=
    sends_nil ((nextBit_of_tail_over rfl rfl).trans (nextBit_of_ended (.inr rfl)).symm) rfl rfl
  simpa using (enter.trans flags).trans leave

/-- 41_hdlc_framer R243: a fresh framer sends the session's bits and is done, with the CRC and the FCS of the body. -/
theorem sends_session (fresh : s.framerFresh) (long : 1 ≤ s.latLen.toNat) (short : s.latLen.toNat ≤ 328) :
    ∃ t, Sends (sessionStream s.latPre.toNat s.latTail.toNat s.body) s t ∧ t.encState = .done ∧
      t.crc = crcOf s.body ∧ t.fcs = fcsOf s.body := by
  obtain ⟨t, frame, last, notFive⟩ := (inFrame_of_fresh fresh long).sendsRest long short (Nat.zero_le 5) (Nat.zero_le _)
  have place := last.place
  have position := t.bitPos.isLt
  have latTail : t.latTail = s.latTail := (congrArg State.latTail last.only).trans rfl
  have tail := sends_tail last.phase notFive (by rw [last.latLen]; omega)
  rw [latTail] at tail
  exact ⟨_, ((sends_preamble fresh).trans frame).trans tail, rfl, last.crc_of_body (by omega), last.fcs (by omega)⟩

/-- A framer that is done returns END for ever and keeps its registers (41_hdlc_framer R242). -/
theorem observe_of_done (done : s.encState = .done) (n : Nat) :
    observe n s = (List.replicate n .endOfSession, s.crc, s.fcs) := by
  induction n with
  | zero => rfl
  | succ n ih => rw [observe_succ, nextBit_of_ended (.inr done), ih]; rfl

/-- Any number of calls past the session's bits. -/
theorem observe_session (fresh : s.framerFresh) (long : 1 ≤ s.latLen.toNat) (short : s.latLen.toNat ≤ 328) (n : Nat) :
    observe ((sessionStream s.latPre.toNat s.latTail.toNat s.body).length + n) s =
      ((sessionStream s.latPre.toNat s.latTail.toNat s.body).map FramerOutput.bit ++ List.replicate n .endOfSession,
        crcOf s.body, fcsOf s.body) := by
  obtain ⟨t, sent, done, crc, fcs⟩ := sends_session fresh long short
  rw [sent, observe_of_done done, crc, fcs]

/-- Settles O53, phase by phase through `sends_session`, and END for ever after it. -/
theorem framerSendsFlagsAndStuffedFrame : Obligations.FramerSendsFlagsAndStuffedFrame := by
  unfold Obligations.FramerSendsFlagsAndStuffedFrame
  intro s n fresh long short bits
  have seen := observe_session fresh (by omega) short
  exact ⟨congrArg Prod.fst (seen n), congrArg (fun o => o.2.2) (seen 0), congrArg (fun o => o.2.1) (seen 0)⟩

/-! ## Unstuffing -/

/-- The call after `n` calls is the last of `n + 1`. -/
theorem nextBit_pullBits (n : Nat) (s : State) :
    (pullBits (n + 1) s).1 = (pullBits n s).1 ++ [(nextBit (pullBits n s).2).1] := by
  rw [pullBits_add]
  rfl

/-- The session's bits without its flags are the stuffed frame. -/
theorem frame_of_sessionStream (preambleFlags tailFlags : Nat) (body : List Byte) :
    ((sessionStream preambleFlags tailFlags body).drop (8 * preambleFlags)).take
      ((sessionStream preambleFlags tailFlags body).length - 8 * preambleFlags - 8 * tailFlags) =
        stuff 0 (frameStream body) := by
  have length : (sessionStream preambleFlags tailFlags body).length - 8 * preambleFlags - 8 * tailFlags =
      (stuff 0 (frameStream body)).length := by
    simp only [sessionStream, List.length_append, length_flagsStream]
    omega
  rw [length, sessionStream, List.append_assoc, List.drop_left' (length_flagsStream preambleFlags), List.take_left]

/-- Settles O55: the bits are those of O53, and unstuffing undoes the stuffing of the frame. -/
theorem unstuffingRecoversTheFrame : Obligations.UnstuffingRecoversTheFrame := by
  unfold Obligations.UnstuffingRecoversTheFrame
  intro s fresh long short
  have sent n := (framerSendsFlagsAndStuffedFrame s n fresh long short).1
  have first := sent 0
  have next := sent 1
  rw [Nat.add_zero, List.replicate_zero, List.append_nil] at first
  rw [nextBit_pullBits, first] at next
  refine ⟨sessionStream s.latPre.toNat s.latTail.toNat s.body, first, ?_, ?_, ?_⟩
  · exact List.head_eq_of_cons_eq (List.append_cancel_left next)
  · simp only [sessionStream, List.length_append, length_flagsStream]
    omega
  · rw [frame_of_sessionStream, unstuff_stuff]
    rfl

end Sys2Proof.Proofs
end

section
/-! 41_hdlc_framer R244: no six consecutive 1s in FRAME. The run of 1s at the end of what was sent is `ones`, and a 1 is sent only
while it is below five. -/

namespace Sys2Proof.Proofs
open Sys2Proof Sys2Proof.Machine

variable {s : State}

/-! ## FRAME is not entered again -/

/-- Past FRAME: in TAIL or DONE. -/
def PastFrame (s : State) : Prop := s.encState = .tail ∨ s.encState = .done

theorem nextBit_pastFrame (past : PastFrame s) : PastFrame (nextBit s).2 := by
  rcases past with tail | done
  · by_cases spent : s.flagsLeft = 0
    · rw [nextBit_of_tail_over tail spent]
      exact .inr rfl
    · rw [nextBit_of_flags_left (.inr tail) spent]
      exact .inl ((flagBitStep_encState s).trans tail)
  · rw [nextBit_of_ended (.inr done)]
    exact .inr done

theorem pullBits_pastFrame (past : PastFrame s) (n : Nat) : PastFrame (pullBits n s).2 := by
  induction n generalizing s with
  | zero => exact past
  | succ n ih => exact ih (nextBit_pastFrame past)

/-! ## One call in FRAME -/

/-- A call in FRAME moves past it, or stays and counts the bit that it returns: a 1 only while `ones` is not five
(41_hdlc_framer R235). -/
theorem nextBit_frame_cases (frame : s.encState = .frame) :
    PastFrame (nextBit s).2 ∨
    ((nextBit s).2.encState = .frame ∧
      (((nextBit s).1 = .bit false ∧ (nextBit s).2.ones = 0) ∨
        ((nextBit s).1 = .bit true ∧ s.ones ≠ 5 ∧ (nextBit s).2.ones = s.ones + 1))) := by
  by_cases five : s.ones = 5
  · rw [nextBit_of_five_ones frame five]
    exact .inr ⟨frame, .inl ⟨rfl, rfl⟩⟩
  · by_cases last : s.byteIdx.toNat = s.latLen.toNat + 2
    · rw [nextBit_of_frame_over frame five last]
      exact .inl (nextBit_pastFrame (.inl rfl))
    · rw [nextBit_of_frame frame five last, frameBitStep_eq]
      cases bit : s.frameBit
      · exact .inr ⟨frame, .inl ⟨rfl, rfl⟩⟩
      · exact .inr ⟨frame, .inr ⟨rfl, five, rfl⟩⟩

/-! ## Runs of 1s -/

/-- A run of `n` 1s. -/
def onesRun (n : Nat) : List FramerOutput := List.replicate n (.bit true)

theorem onesRun_succ (n : Nat) : onesRun (n + 1) = .bit true :: onesRun n := List.replicate_succ

theorem onesRun_append_one (n : Nat) (outputs : List FramerOutput) :
    onesRun n ++ .bit true :: outputs = onesRun (n + 1) ++ outputs := by
  rw [onesRun, onesRun, List.replicate_succ', List.append_assoc]
  rfl

/-- Six 1s do not begin with a shorter run that a 0 ends. -/
theorem not_six_ones_start {run : Nat} {outputs : List FramerOutput} (short : run ≤ 5) :
    ¬ onesRun 6 <+: onesRun run ++ .bit false :: outputs := by
  intro start
  have split : onesRun 6 = onesRun run ++ .bit true :: onesRun (5 - run) := by
    rw [← onesRun_succ, onesRun, onesRun, onesRun, List.replicate_append_replicate]
    congr 1
    omega
  rw [split, List.prefix_append_right_inj, List.cons_prefix_cons] at start
  cases start.1

/-- A 0 ends a run of at most five: no six 1s reach across it. -/
theorem six_ones_of_zero {run : Nat} {outputs : List FramerOutput} (short : run ≤ 5)
    (six : onesRun 6 <:+: onesRun run ++ .bit false :: outputs) : onesRun 6 <:+: outputs := by
  induction run with
  | zero => exact (List.infix_cons_iff.1 six).resolve_left (not_six_ones_start (Nat.zero_le 5))
  | succ run ih =>
    rw [onesRun_succ run, List.cons_append] at six
    rcases List.infix_cons_iff.1 six with start | later
    · rw [← List.cons_append, ← onesRun_succ] at start
      exact absurd start (not_six_ones_start short)
    · exact ih (by omega) later

/-- With the 1s of the run it is in put before them, the bits sent in FRAME hold no six 1s. -/
theorem no_six_ones_after_run (n : Nat) (frame : s.encState = .frame) (atMostFive : s.ones.toNat ≤ 5)
    (stays : (pullBits n s).2.encState = .frame) :
    ¬ onesRun 6 <:+: onesRun s.ones.toNat ++ (pullBits n s).1 := by
  induction n generalizing s with
  | zero =>
    intro six
    have length : 6 ≤ s.ones.toNat := by simpa [onesRun] using six.length_le
    omega
  | succ n ih =>
    have next := nextBit_ones_le_five atMostFive
    rcases nextBit_frame_cases frame with past | ⟨still, ⟨zero, cleared⟩ | ⟨one, notFive, counted⟩⟩
    · rcases pullBits_pastFrame past n with tail | done
      · exact absurd (stays.symm.trans tail) (by decide)
      · exact absurd (stays.symm.trans done) (by decide)
    · intro six
      rw [pullBits, zero] at six
      have rest := ih still next stays
      rw [cleared] at rest
      exact rest (six_ones_of_zero atMostFive six)
    · have longer : (nextBit s).2.ones.toNat = s.ones.toNat + 1 := by
        rw [counted]
        bv_omega
      rw [pullBits, one, onesRun_append_one, ← longer]
      exact ih still next stays

/-- Settles O54: the run before the first bit only adds 1s to what is searched. -/
theorem noSixOnesInFrame : Obligations.NoSixOnesInFrame := by
  unfold Obligations.NoSixOnesInFrame
  intro s n frame atMostFive stays six
  exact no_six_ones_after_run n frame atMostFive stays (six.trans (List.suffix_append _ _).isInfix)

end Sys2Proof.Proofs
end

section
/-! O36: `load_bit()` written out field by field, at the end of the stream and on a bit. -/

namespace Sys2Proof.Proofs
open Sys2Proof Sys2Proof.Machine

variable {s : State} {b : Bool}

/-- 42_nrzi R273: a tone that is not mark is space. -/
theorem toneIncrement_eq_ite (P : Params) (t : Tone) :
    toneIncrement P t = if t = .mark then P.dmark else P.dspace := by
  cases t <;> rfl

/-- 43_afsk R284: on END the session is released. -/
theorem loadBit_of_end (P : Params) (out : (nextBit s).1 = .endOfSession) :
    loadBit P s = enterRelease { (nextBit s).2 with sampleIndex := 0 } := by
  rcases loadBit_cases P s with ⟨_, released⟩ | ⟨_, bit, _⟩
  · exact released
  · cases out.symm.trans bit

/-- 43_afsk R284: a bit is modulated. -/
theorem loadBit_of_bit (P : Params) (out : (nextBit s).1 = .bit b) :
    loadBit P s = modulateBit P b { (nextBit s).2 with sampleIndex := 0 } := by
  rcases loadBit_cases P s with ⟨atEnd, _⟩ | ⟨_, bit, modulated⟩
  · cases out.symm.trans atEnd
  · cases out.symm.trans bit
    exact modulated

/-- Settles O36: the tone is `nrzi` of the bit (42_nrzi R270), which `nrzi_eq_iff` fixes by whether it holds. -/
theorem loadBitModulatesOrReleases : Obligations.LoadBitModulatesOrReleases := by
  unfold Obligations.LoadBitModulatesOrReleases
  intro P s
  refine ⟨fun out => loadBit_of_end P out, fun b out => ⟨nrzi (nextBit s).2.tone b, nrzi_eq_iff _ b, ?_⟩⟩
  rw [loadBit_of_bit P out, ← toneIncrement_eq_ite, modulateBit]
  congr 1
  -- What is left is the TX state, which follows the framer's phase (43_afsk R285).
  cases (nextBit s).2.encState <;> rfl

end Sys2Proof.Proofs
end

section
/-! 43_afsk: the samples. A strobe in a TX state is the accumulator's advance followed by the test for the bit boundary, and the
samples of one interval are the iterates of that advance. -/

namespace Sys2Proof.Proofs
open Sys2Proof Sys2Proof.Machine

variable {P : Params} {i : Instr} {s t : State}

/-! ## One strobe -/

/-- The table's index is the top byte of the accumulator after its advance (43_afsk R282, R286). -/
theorem respond_oneSample (s : State) :
    respond (.sample (oneSample Config.block s).1) (oneSample Config.block s).2 = afterSample s := by
  have topByte : ((s.phaseAcc + s.phaseInc).extractLsb' 8 8).toNat = (s.phaseAcc + s.phaseInc).toNat / 256 := by
    rw [BitVec.extractLsb'_toNat, Nat.shiftRight_eq_div_pow]
    omega
  unfold afterSample
  rw [← topByte]
  rfl

theorem exec_strobe_of_transmitting (tx : s.transmitting = true) :
    exec .evSampleStrobe s = .next (atBitBoundary Config.block (afterSample s)) := by
  rw [← respond_oneSample]
  exact congrArg Host.Outcome.next (if_pos tx)

theorem exec_strobe_of_not_transmitting (idle : s.transmitting = false) :
    exec .evSampleStrobe s = .next { s with response := .none } :=
  congrArg Host.Outcome.next (if_neg (by simp [idle]))

/-- Settles O35: the TX states are those that transmit. -/
theorem sampleStrobeTakesOneSample : Obligations.SampleStrobeTakesOneSample := by
  unfold Obligations.SampleStrobeTakesOneSample
  refine fun s => ⟨fun tx => exec_strobe_of_transmitting (transmitting_iff.2 tx),
    fun other => exec_strobe_of_not_transmitting ?_⟩
  rcases other with state | state | state <;> simp [State.transmitting, state]

/-! ## Phase continuity (43_afsk R287) -/

@[simp] theorem loadBit_phaseAcc (P : Params) (s : State) : (loadBit P s).phaseAcc = s.phaseAcc :=
  (congrArg State.phaseAcc (loadBit_loadOnly P s)).trans rfl

@[simp] theorem loadBit_sampleCount (P : Params) (s : State) : (loadBit P s).sampleCount = s.sampleCount :=
  (congrArg State.sampleCount (loadBit_loadOnly P s)).trans rfl

@[simp] theorem loadBit_response (P : Params) (s : State) : (loadBit P s).response = s.response :=
  (congrArg State.response (loadBit_loadOnly P s)).trans rfl

/-- The accumulator is moved by a sample, by one increment, and by RESET. -/
theorem Effect.phaseAcc_cases (h : Effect P i s t) :
    t.phaseAcc = s.phaseAcc ∨ i = .evReset ∨
    (i = .evSampleStrobe ∧ (∃ v, t.response = .sample v) ∧ t.phaseAcc = s.phaseAcc + s.phaseInc) := by
  cases h with
  | host session => exact .inl ((congrArg State.phaseAcc session).trans rfl)
  | reset => exact .inr (.inl rfl)
  | sample => exact .inr (.inr ⟨rfl, ⟨_, rfl⟩, rfl⟩)
  | sampleAndLoad => exact .inr (.inr ⟨rfl, ⟨_, loadBit_response _ _⟩, loadBit_phaseAcc _ _⟩)
  | leadEnd => exact .inl (loadBit_phaseAcc _ _)
  | _ => exact .inl rfl

/-- The increment is moved by the load of a bit, after the last sample of the one before or at the end of the lead wait, and by
RESET. -/
theorem Effect.phaseInc_cases (h : Effect P i s t) :
    t.phaseInc = s.phaseInc ∨ i = .evReset ∨
    (i = .evSampleStrobe ∧ (s.sampleIndex + 1).toNat = P.spb) ∨
    (i = .evTimeTick ∧ s.seqState = .pttAssert ∧ s.leadCnt = 0) := by
  cases h with
  | host session => exact .inl ((congrArg State.phaseInc session).trans rfl)
  | reset => exact .inr (.inl rfl)
  | sampleAndLoad _ last => exact .inr (.inr (.inl ⟨rfl, last⟩))
  | leadEnd wait elapsed => exact .inr (.inr (.inr ⟨rfl, wait, elapsed⟩))
  | _ => exact .inl rfl

/-- Settles O48: what changed is one of the cases of the operation's effect other than "unchanged". -/
theorem phaseIsContinuous : Obligations.PhaseIsContinuous := by
  unfold Obligations.PhaseIsContinuous
  intro s t i performed
  have effect := exec_effect performed
  exact ⟨effect.phaseAcc_cases.resolve_left, effect.phaseInc_cases.resolve_left⟩

/-! ## The samples of one bit interval (43_afsk R289) -/

/-- `k` samples in a row, field by field. -/
theorem iterate_afterSample (k : Nat) (s : State) :
    afterSample^[k] s = { s with
      phaseAcc := s.phaseAcc + BitVec.ofNat 16 k * s.phaseInc
      sampleIndex := s.sampleIndex + BitVec.ofNat 7 k
      sampleCount := s.sampleCount + BitVec.ofNat 32 k
      response := (afterSample^[k] s).response } := by
  induction k with
  | zero => simp
  | succ k ih =>
    rw [Function.iterate_succ_apply', ih]
    simp [afterSample, BitVec.ofNat_add, BitVec.add_mul, BitVec.add_assoc]

theorem iterate_afterSample_transmitting (k : Nat) (s : State) :
    (afterSample^[k] s).transmitting = s.transmitting := by
  rw [iterate_afterSample]
  rfl

theorem iterate_afterSample_sampleIndex {k : Nat} (inside : s.sampleIndex.toNat + k < 128) :
    (afterSample^[k] s).sampleIndex.toNat = s.sampleIndex.toNat + k := by
  rw [iterate_afterSample]
  simp only [BitVec.toNat_add, BitVec.toNat_ofNat]
  omega

/-- Before the interval is complete no bit is loaded. -/
theorem atBitBoundary_iterate_afterSample {k : Nat} (inside : s.sampleIndex.toNat + k < 88) :
    atBitBoundary Config.block (afterSample^[k] s) = afterSample^[k] s := by
  have before : (afterSample^[k] s).sampleIndex.toNat ≠ Config.block.spb := by
    rw [iterate_afterSample_sampleIndex (by omega)]
    exact Nat.ne_of_lt inside
  exact if_neg before

@[simp] theorem atBitBoundary_phaseAcc (P : Params) (s : State) : (atBitBoundary P s).phaseAcc = s.phaseAcc := by
  unfold atBitBoundary
  split
  · exact loadBit_phaseAcc P s
  · rfl

@[simp] theorem atBitBoundary_sampleCount (P : Params) (s : State) :
    (atBitBoundary P s).sampleCount = s.sampleCount := by
  unfold atBitBoundary
  split
  · exact loadBit_sampleCount P s
  · rfl

/-- Of the strobes up to the end of the interval only the last can load the next bit. -/
theorem performAll_strobes (k : Nat) (tx : s.transmitting = true) (inside : s.sampleIndex.toNat + k < 88) :
    performAll (List.replicate (k + 1) .evSampleStrobe) s =
      .next (atBitBoundary Config.block (afterSample^[k + 1] s)) := by
  induction k with
  | zero => exact performAll_cons (exec_strobe_of_transmitting tx)
  | succ k ih =>
    have reached := ih (by omega)
    rw [atBitBoundary_iterate_afterSample inside] at reached
    rw [List.replicate_succ', performAll_append reached, Function.iterate_succ_apply' _ (k + 1)]
    exact performAll_cons (exec_strobe_of_transmitting ((iterate_afterSample_transmitting _ s).trans tx))

/-- Settles O57: the iterate's fields, which the load of a bit at the end of the interval leaves as far as they are claimed. -/
theorem accumulatorAdvancesByTheIncrement : Obligations.AccumulatorAdvancesByTheIncrement := by
  unfold Obligations.AccumulatorAdvancesByTheIncrement
  refine ⟨fun s k tx within => ?_, by decide, by decide⟩
  cases k with
  | zero => exact ⟨s, rfl, by simp, by simp, fun _ => by simp⟩
  | succ k =>
    have fields := iterate_afterSample (k + 1) s
    refine ⟨_, performAll_strobes k tx within, ?_, ?_, fun inside => ?_⟩
    · rw [atBitBoundary_phaseAcc, fields]
    · rw [atBitBoundary_sampleCount, fields]
    · rw [atBitBoundary_iterate_afterSample inside]
      exact fields

end Sys2Proof.Proofs
end

section
/-! 44_ptt_sequencer: the commands SEND and CANCEL and the events TIME_TICK, SINK_DRAINED and SINK_FAULT, one equation for each
branch of their rules. -/

namespace Sys2Proof.Proofs
open Sys2Proof Sys2Proof.Machine

variable {P : Params} {s : State}

/-! ## CANCEL and SEND -/

theorem exec_cancel (s : State) : exec .cancel s =
    .next (respond .none (if s.busy then { s with cancelPend := true } else s)) := rfl

/-- Settles O29, by whether a session runs. -/
theorem cancelSetsTheFlagOnly : Obligations.CancelSetsTheFlagOnly := by
  unfold Obligations.CancelSetsTheFlagOnly
  refine fun s => ⟨fun busy => ?_, fun ready => ?_⟩
  · rw [exec_cancel, if_pos (busy_iff.2 busy)]
    rfl
  · rw [exec_cancel, busy_eq_false_iff.2 ready, if_neg Bool.false_ne_true]
    rfl

theorem exec_send (s : State) : exec .send s = .next (respond .none (sendCommand Config.block s)) := rfl

theorem sendCommand_of_badConfig (bad : s.configLegal = false) : sendCommand P s = reject .badConfig s := by
  rw [sendCommand, bad]
  rfl

theorem sendCommand_of_badLength (config : s.configLegal = true) (bad : s.lengthLegal P = false) :
    sendCommand P s = reject .badLength s := by
  rw [sendCommand, config, bad]
  rfl

theorem sendCommand_of_busy (config : s.configLegal = true) (length : s.lengthLegal P = true) (busy : s.busy = true) :
    sendCommand P s = reject .busy s := by
  rw [sendCommand, config, length, busy]
  rfl

theorem sendCommand_of_ready (config : s.configLegal = true) (length : s.lengthLegal P = true) (ready : s.busy = false) :
    sendCommand P s = startSession s := by
  rw [sendCommand, config, length, ready]
  rfl

/-- Settles O30: the precedence of R311 is the order of the tests, and a rejection says that the tests before it passed. -/
theorem sendChecksThenStartsTheSession : Obligations.SendChecksThenStartsTheSession := by
  unfold Obligations.SendChecksThenStartsTheSession
  intro s configGood lengthGood
  have config : s.configLegal = true ↔ configGood := configLegal_iff.trans and_assoc
  have length : s.lengthLegal Config.block = true ↔ lengthGood := lengthLegal_iff
  simp only [exec_send]
  refine ⟨fun bad => ?_, fun good bad => ?_, fun good inRange busy => ?_, fun good inRange ready => ?_⟩
  · rw [sendCommand_of_badConfig (Bool.eq_false_iff.2 (mt config.1 bad))]
    rfl
  · rw [sendCommand_of_badLength (config.2 good) (Bool.eq_false_iff.2 (mt length.1 bad))]
    rfl
  · rw [sendCommand_of_busy (config.2 good) (length.2 inRange) (busy_iff.2 busy)]
    rfl
  · rw [sendCommand_of_ready (config.2 good) (length.2 inRange) (busy_eq_false_iff.2 ready)]
    rfl

/-! ## TIME_TICK -/

theorem exec_tick (s : State) : exec .evTimeTick s = .next (respond .none (timeTick Config.block s)) := rfl

theorem timeTick_of_lead (wait : s.seqState = .pttAssert) (more : s.leadCnt ≠ 0) : timeTick P s = countLead s := by
  rw [timeTick, wait]
  exact if_neg more

theorem timeTick_of_lead_over (wait : s.seqState = .pttAssert) (elapsed : s.leadCnt = 0) : timeTick P s = loadBit P s := by
  rw [timeTick, wait]
  exact if_pos elapsed

theorem timeTick_of_trail (wait : s.seqState = .pttRelease) (drained : s.drained = true) (more : s.trailCnt ≠ 0) :
    timeTick P s = countTrail s := by
  rw [timeTick, wait]
  exact (if_pos drained).trans (if_neg more)

theorem timeTick_of_trail_over (wait : s.seqState = .pttRelease) (drained : s.drained = true) (elapsed : s.trailCnt = 0) :
    timeTick P s = endSession s := by
  rw [timeTick, wait]
  exact (if_pos drained).trans (if_pos elapsed)

theorem timeTick_of_no_wait (notLead : s.seqState ≠ .pttAssert)
    (notTrail : ¬ (s.seqState = .pttRelease ∧ s.drained = true)) :
    timeTick P s = s := by
  rcases timeTick_cases P s with ⟨lead, _⟩ | ⟨lead, _⟩ | ⟨trail, drained, _⟩ | ⟨trail, drained, _⟩ | ⟨_, _, unmoved⟩
  · exact absurd lead notLead
  · exact absurd lead notLead
  · exact absurd ⟨trail, drained⟩ notTrail
  · exact absurd ⟨trail, drained⟩ notTrail
  · exact unmoved

/-- Settles O32, each clause by the equation of its branch. -/
theorem timeTickServesTheWaits : Obligations.TimeTickServesTheWaits := by
  unfold Obligations.TimeTickServesTheWaits
  intro s
  simp only [exec_tick]
  refine ⟨fun wait more => ?_, fun wait elapsed => ?_, fun wait drained more => ?_, fun wait drained elapsed => ?_,
    fun notLead notTrail => ?_⟩
  · rw [timeTick_of_lead wait more]
    rfl
  · rw [timeTick_of_lead_over wait elapsed]
    rfl
  · rw [timeTick_of_trail wait drained more]
    rfl
  · rw [timeTick_of_trail_over wait drained elapsed]
    rfl
  · rw [timeTick_of_no_wait notLead notTrail]
    rfl

/-! ## SINK_DRAINED and SINK_FAULT -/

theorem exec_drained (s : State) : exec .evSinkDrained s =
    .next (respond .none (if s.seqState = .pttRelease ∧ s.drained = false then noteDrain s else s)) := rfl

/-- Settles O33, by the condition of R318. -/
theorem sinkDrainedStartsTheTrailWait : Obligations.SinkDrainedStartsTheTrailWait := by
  unfold Obligations.SinkDrainedStartsTheTrailWait
  refine fun s => ⟨fun wait undrained => ?_, fun other => ?_⟩
  · rw [exec_drained, if_pos ⟨wait, undrained⟩]
    rfl
  · rw [exec_drained, if_neg other]
    rfl

theorem exec_fault (s : State) : exec .evSinkFault s =
    .next (respond .none (if s.busy then abortSession s else s)) := rfl

/-- Settles O34, by whether a session runs. -/
theorem sinkFaultAbortsTheSession : Obligations.SinkFaultAbortsTheSession := by
  unfold Obligations.SinkFaultAbortsTheSession
  refine fun s => ⟨fun busy => ?_, fun ready => ?_⟩
  · rw [exec_fault, if_pos (busy_iff.2 busy)]
    rfl
  · rw [exec_fault, busy_eq_false_iff.2 ready, if_neg Bool.false_ne_true]
    rfl

end Sys2Proof.Proofs
end

section
/-! 44_ptt_sequencer R310, R322, R323: where the sequencer goes, when the PTT pin moves, and when a sample may be put out. -/

namespace Sys2Proof.Proofs
open Sys2Proof Sys2Proof.Machine

variable {P : Params} {i : Instr} {s t : State}

/-! ## The sequencer's table (R310) -/

/-- Every operation but an illegal word completes, in every state. -/
theorem exec_completes (s : State) (legal : ∀ op, i ≠ .invalid op) : ∃ t, exec i s = .next t := by
  cases i with
  | invalid op => exact absurd rfl (legal op)
  | _ => exact ⟨_, rfl⟩

/-- An operation moves the sequencer only if it is one of the five that the table names. -/
theorem Effect.seqState_cases (h : Effect P i s t) :
    t.seqState = s.seqState ∨ i ∈ [.send, .evTimeTick, .evSampleStrobe, .evSinkFault, .evReset] := by
  cases h with
  | host session => exact .inl ((congrArg State.seqState session).trans rfl)
  | start => exact .inr (by simp)
  | reset => exact .inr (by simp)
  | sampleAndLoad => exact .inr (by simp)
  | leadEnd => exact .inr (by simp)
  | trailEnd => exact .inr (by simp)
  | abort => exact .inr (by simp)
  | _ => exact .inl rfl

/-- 43_afsk R284, R285: `load_bit()` leaves the sequencer in the state named by the phase that the framer's tests leave. -/
theorem loadBit_seqState (running : s.encState ≠ .idle) :
    (loadBit P s).seqState = txStateOf (framerPhase s).encState .pttRelease := by
  have phase : (loadBit P s).encState = (framerPhase s).encState := by
    rw [← nextBit_encState]
    rcases loadBit_cases P s with ⟨_, e⟩ | ⟨_, _, e⟩ <;> rw [e] <;> rfl
  rw [← phase]
  rcases loadBit_phases (P := P) running with ⟨e, q⟩ | ⟨e, q⟩ | ⟨e, q⟩ | ⟨e, q⟩ <;> rw [e, q] <;> rfl

theorem loadBit_seqState_of_flags_left (phase : s.encState = .preamble ∨ s.encState = .tail) (more : s.flagsLeft ≠ 0) :
    (loadBit P s).seqState = txStateOf s.encState .pttRelease := by
  rw [loadBit_seqState (by rcases phase with e | e <;> simp [e]), framerPhase_of_flags_left phase more]

theorem framerPhase_of_preamble_over (preamble : s.encState = .preamble) (spent : s.flagsLeft = 0) :
    framerPhase s = { s with encState := .frame, byteIdx := 0, bitPos := 0, ones := 0 } := by
  have first : enterFrame s = { s with encState := .frame, byteIdx := 0, bitPos := 0, ones := 0 } := if_pos ⟨preamble, spent⟩
  have second : enterTail { s with encState := .frame, byteIdx := 0, bitPos := 0, ones := 0 } = _ :=
    if_neg fun k => absurd k.2.2 (Nat.succ_ne_zero _).symm
  rw [framerPhase, first, second, enterDone_of_ne_tail (by simp)]

theorem framerPhase_of_frame_over (frame : s.encState = .frame) (ones : s.ones ≠ 5)
    (last : s.byteIdx.toNat = s.latLen.toNat + 2) (flags : s.latTail ≠ 0) :
    framerPhase s = { s with encState := .tail, flagsLeft := s.latTail, bitPos := 0 } := by
  have second : enterTail s = { s with encState := .tail, flagsLeft := s.latTail, bitPos := 0 } := if_pos ⟨frame, ones, last⟩
  have third : enterDone { s with encState := .tail, flagsLeft := s.latTail, bitPos := 0 } = _ := if_neg fun k => flags k.2
  rw [framerPhase, enterFrame_of_ne_preamble (by simp [frame]), second, third]

/-- Where `load_bit()` takes the sequencer from a TX state: the rows of R310 for the last strobe of a bit. -/
def txNext (s : State) : SeqState :=
  if s.seqState = .txPreamble ∧ s.flagsLeft = 0 then .txFrame
  else if s.seqState = .txFrame ∧ s.ones ≠ 5 ∧ s.byteIdx.toNat = s.latLen.toNat + 2 then .txTail
  else if s.seqState = .txTail ∧ s.flagsLeft = 0 then .pttRelease
  else s.seqState

theorem loadBit_seqState_of_preamble (seq : s.seqState = .txPreamble) (enc : s.encState = .preamble) :
    (loadBit P s).seqState = txNext s := by
  by_cases spent : s.flagsLeft = 0
  · rw [loadBit_seqState (by simp [enc]), framerPhase_of_preamble_over enc spent]
    simp [txNext, seq, spent, txStateOf]
  · rw [loadBit_seqState_of_flags_left (.inl enc) spent]
    simpa [txNext, seq, enc, txStateOf] using spent

theorem loadBit_seqState_of_frame (seq : s.seqState = .txFrame) (enc : s.encState = .frame) (flags : s.latTail ≠ 0) :
    (loadBit P s).seqState = txNext s := by
  rw [loadBit_seqState (by simp [enc])]
  by_cases past : s.ones ≠ 5 ∧ s.byteIdx.toNat = s.latLen.toNat + 2
  · rw [framerPhase_of_frame_over enc past.1 past.2 flags]
    simpa [txNext, seq, past, txStateOf] using past.1
  · rw [framerPhase_of_frame enc past]
    simpa [txNext, seq, enc, txStateOf] using past

theorem loadBit_seqState_of_tail (seq : s.seqState = .txTail) (enc : s.encState = .tail) :
    (loadBit P s).seqState = txNext s := by
  by_cases spent : s.flagsLeft = 0
  · rw [loadBit_seqState (by simp [enc]), framerPhase_of_tail_over enc spent]
    simp [txNext, seq, spent, txStateOf]
  · rw [loadBit_seqState_of_flags_left (.inr enc) spent]
    simpa [txNext, seq, enc, txStateOf] using spent

/-- The rows of the last strobe, from any TX state whose framer is in the phase of its name and whose tail has flags. -/
theorem loadBit_seqState_of_transmitting (agree : phasesAgree s.seqState s.encState = true) (flags : s.latTail ≠ 0)
    (tx : s.transmitting = true) : (loadBit P s).seqState = txNext s := by
  rcases transmitting_iff.1 tx with seq | seq | seq <;> rw [seq] at agree
  · exact loadBit_seqState_of_preamble seq (beq_iff_eq.1 agree)
  · exact loadBit_seqState_of_frame seq (beq_iff_eq.1 agree) flags
  · exact loadBit_seqState_of_tail seq (beq_iff_eq.1 agree)

theorem strobe_seqState (safe : s.Safe Config.block) (performed : exec .evSampleStrobe s = .next t) :
    t.seqState = if s.sampleIndex.toNat + 1 = 88 then txNext s else s.seqState := by
  have inBit : s.sampleIndex.toNat < 88 := safe.consistent.sample_in_bit
  have index : (s.sampleIndex + 1).toNat = s.sampleIndex.toNat + 1 := by bv_omega
  cases tx : s.transmitting
  · rw [exec_strobe_of_not_transmitting tx] at performed
    cases performed
    have unmoved : txNext s = s.seqState := by cases seq : s.seqState <;> simp_all [txNext, State.transmitting]
    rw [unmoved, ite_self]
  · rw [exec_strobe_of_transmitting tx] at performed
    cases performed
    have busy := (safe.consistent.keyed_iff_busy).symm.trans (loadReady_of_transmitting safe.consistent tx).keyed
    have flags : s.latTail ≠ 0 := fun none => by simpa [none] using (safe.inRange.tail busy).1
    rw [← index, atBitBoundary, apply_ite State.seqState,
      loadBit_seqState_of_transmitting (s := afterSample s) safe.consistent.phases flags tx]
    rfl

theorem send_seqState (performed : exec .send s = .next t) : t.seqState = sequencerNext s .send := by
  have table : sequencerNext s .send =
      if s.busy = false ∧ s.configLegal = true ∧ s.lengthLegal Config.block = true then .pttAssert else s.seqState := by
    refine if_congr ?_ rfl rfl
    rw [busy_eq_false_iff, configLegal_iff, lengthLegal_iff]
    exact and_congr_right' and_assoc.symm
  rw [table]
  cases performed
  rcases sendCommand_cases Config.block s with
    ⟨config, e⟩ | ⟨config, length, e⟩ | ⟨config, length, busy, e⟩ | ⟨config, length, ready, e⟩ <;> rw [respond_seqState, e]
  · simp [config]
  · simp [length]
  · simp [busy]
  · simp [startSession, config, length, ready]

/-- The first bit is a bit of the first flag of the preamble. -/
theorem loadBit_seqState_of_fresh (fresh : s.framerFresh) (flags : s.latPre ≠ 0) :
    (loadBit P s).seqState = .txPreamble := by
  obtain ⟨preamble, left, -⟩ := fresh
  rw [loadBit_seqState_of_flags_left (.inl preamble) (left ▸ flags), preamble]
  rfl

theorem tick_seqState (safe : s.Safe Config.block) (performed : exec .evTimeTick s = .next t) :
    t.seqState = sequencerNext s .evTimeTick := by
  cases performed
  rcases timeTick_cases Config.block s with ⟨wait, elapsed, e⟩ | ⟨wait, more, e⟩ | ⟨wait, drained, elapsed, e⟩ |
    ⟨wait, drained, more, e⟩ | ⟨notLead, undrained, e⟩ <;> rw [respond_seqState, e]
  · have flags : s.latPre ≠ 0 := fun none => by
      simpa [none] using (safe.inRange.preamble (busy_iff.2 (by simp [wait]))).1
    rw [loadBit_seqState_of_fresh (safe.inRange.fresh wait) flags]
    exact (if_pos ⟨wait, elapsed⟩).symm
  · simpa [sequencerNext, wait] using more
  · simp [sequencerNext, wait, drained, elapsed]
  · simpa [sequencerNext, wait, drained] using more
  · simp +contextual [sequencerNext, notLead, undrained]

/-- R310, for every operation that is performed. -/
theorem exec_seqState (safe : s.Safe Config.block) (performed : exec i s = .next t) : t.seqState = sequencerNext s i := by
  have stays := (exec_effect performed).seqState_cases
  cases i with
  | send => exact send_seqState performed
  | evTimeTick => exact tick_seqState safe performed
  | evSampleStrobe => exact strobe_seqState safe performed
  | evSinkFault =>
    cases performed
    cases busy : s.busy
    · exact busy_eq_false_iff.1 busy
    · rfl
  | evReset => cases performed; rfl
  | _ => exact stays.resolve_right (by simp)

/-- Settles O44: every operation completes and moves the sequencer by `exec_seqState`; the rows that keep the state are the
waits of TIME_TICK, and the drain report. -/
theorem sequencerMovesAsItsTableSays : Obligations.SequencerMovesAsItsTableSays := by
  unfold Obligations.SequencerMovesAsItsTableSays
  intro s i safe legal
  obtain ⟨t, performed⟩ := exec_completes s legal
  refine ⟨t, performed, exec_seqState safe performed, ?_, ?_, ?_⟩
  · rintro rfl wait more
    rw [exec_tick, timeTick_of_lead wait more] at performed
    cases performed
    rfl
  · rintro rfl wait drained more
    rw [exec_tick, timeTick_of_trail wait drained more] at performed
    cases performed
    rfl
  · rintro rfl wait
    rw [exec_drained] at performed
    cases performed
    cases drained : s.drained
    · rw [if_pos ⟨wait, rfl⟩]
      rfl
    · rw [if_neg (by simp)]
      exact drained

/-! ## The PTT pin (R322) -/

@[simp] theorem loadBit_pttAsserted (P : Params) (s : State) : (loadBit P s).pttAsserted = s.pttAsserted :=
  (congrArg State.pttAsserted (loadBit_loadOnly P s)).trans rfl

@[simp] theorem loadBit_pttPol (P : Params) (s : State) : (loadBit P s).pttPol = s.pttPol :=
  (congrArg State.pttPol (loadBit_loadOnly P s)).trans rfl

/-- The line is keyed and released by the start, the end and the abort of a session and by RESET. -/
theorem Effect.pttAsserted_cases (h : Effect P i s t) :
    t.pttAsserted = s.pttAsserted ∨
    (i = .send ∧ s.seqState = .ready ∧ t.seqState = .pttAssert) ∨
    (i = .evTimeTick ∧ s.seqState = .pttRelease ∧ t.seqState = .ready) ∨
    (i = .evSinkFault ∧ s.seqState ≠ .ready ∧ t.seqState = .ready) ∨
    i = .evReset := by
  cases h with
  | host session => exact .inl ((congrArg State.pttAsserted session).trans rfl)
  | start _ _ ready => exact .inr (.inl ⟨rfl, busy_eq_false_iff.1 ready, rfl⟩)
  | trailEnd wait => exact .inr (.inr (.inl ⟨rfl, wait, rfl⟩))
  | abort busy => exact .inr (.inr (.inr (.inl ⟨rfl, busy_iff.1 busy, rfl⟩)))
  | reset => exact .inr (.inr (.inr (.inr rfl)))
  | sampleAndLoad => exact .inl (loadBit_pttAsserted _ _)
  | leadEnd => exact .inl (loadBit_pttAsserted _ _)
  | _ => exact .inl rfl

/-- The lock of R356: while BUSY a CTRL write leaves the polarity. -/
theorem writeLockedCtrl_pttPol (w : Word) (busy : s.seqState ≠ .ready) : (writeLockedCtrl w s).pttPol = s.pttPol := by
  unfold writeLockedCtrl
  split
  · rfl
  · next unlocked =>
    by_contra changed
    exact unlocked (by simp_all [ctrlLocked, busy_iff.2 busy])

/-- What both branches keep of a state, the choice keeps. -/
theorem ite_keeps {α : Type} {c : Prop} [Decidable c] {f : State → α} {a b : State} {x : α} (left : f a = x)
    (right : f b = x) : f (if c then a else b) = x := by
  split
  · exact left
  · exact right

theorem sendCommand_pttPol (P : Params) (s : State) : (sendCommand P s).pttPol = s.pttPol :=
  ite_keeps rfl (ite_keeps rfl (ite_keeps rfl rfl))

theorem writeBuf_pttPol (P : Params) (k : BitVec 9) (w : Word) (s : State) : (writeBuf P k w s).pttPol = s.pttPol :=
  ite_keeps (f := State.pttPol) (ite_keeps (f := State.pttPol) rfl rfl) rfl

theorem sampleStrobe_pttPol (P : Params) (s : State) : (sampleStrobe P s).pttPol = s.pttPol := by
  rcases sampleStrobe_cases P s with ⟨_, e⟩ | ⟨_, _, e⟩ | ⟨_, _, e⟩ <;> rw [e]
  case inr.inr => exact loadBit_pttPol P _
  all_goals rfl

theorem timeTick_pttPol (P : Params) (s : State) : (timeTick P s).pttPol = s.pttPol := by
  rcases timeTick_cases P s with ⟨_, _, e⟩ | ⟨_, _, e⟩ | ⟨_, _, _, e⟩ | ⟨_, _, _, e⟩ | ⟨_, _, e⟩ <;> rw [e]
  case inl => exact loadBit_pttPol P s
  all_goals rfl

/-- The polarity is moved by a CTRL write in READY and by RESET. -/
theorem exec_pttPol_cases (performed : exec i s = .next t) :
    t.pttPol = s.pttPol ∨ i = .evReset ∨ ∃ w, i = .wrCtrl w ∧ s.seqState = .ready := by
  by_cases moves : i = .evReset ∨ ∃ w, i = .wrCtrl w ∧ s.seqState = .ready
  · exact .inr moves
  left
  cases i with
  | invalid => cases performed
  | evReset => exact absurd (.inl rfl) moves
  | wrCtrl w =>
    cases performed
    exact writeLockedCtrl_pttPol w fun ready => moves (.inr ⟨w, rfl, ready⟩)
  | wrFrameLen | wrCrcData | crcInit | cancel | evSinkDrained | evSinkFault | rdBuf =>
    cases performed
    exact ite_keeps (f := State.pttPol) rfl rfl
  | wrBuf k w => cases performed; exact writeBuf_pttPol _ k w s
  | send => cases performed; exact sendCommand_pttPol _ s
  | evSampleStrobe => cases performed; exact sampleStrobe_pttPol _ s
  | evTimeTick => cases performed; exact timeTick_pttPol _ s
  | _ => cases performed; rfl

/-- Settles O46: the pin is a function of line and polarity, so one of them moved. -/
theorem pttPinChangesAtSessionEdges : Obligations.PttPinChangesAtSessionEdges := by
  unfold Obligations.PttPinChangesAtSessionEdges
  refine ⟨fun s => rfl, fun s t i performed moved => ?_⟩
  rcases (exec_effect performed).pttAsserted_cases with line | start | ending | abort | reset
  · have polarity : t.pttPol ≠ s.pttPol := fun same => moved (by rw [State.pttPin, State.pttPin, line, same])
    rcases exec_pttPol_cases performed with same | reset | ⟨w, write, ready⟩
    · exact absurd same polarity
    · exact .inr (.inr (.inr (.inl reset)))
    · exact .inr (.inr (.inr (.inr ⟨w, write, ready, polarity⟩)))
  · exact .inl start
  · exact .inr (.inl ending)
  · exact .inr (.inr (.inl abort))
  · exact .inr (.inr (.inr (.inl reset)))

/-! ## Samples (R323) -/

/-- Only a strobe puts out a sample. -/
theorem strobe_of_sample {v : Byte} (performed : exec i s = .next t) (out : t.response = .sample v) :
    i = .evSampleStrobe := by
  cases i with
  | evSampleStrobe => rfl
  | invalid => cases performed
  | rdBuf k =>
    cases performed
    rw [readBuf] at out
    split at out <;> cases out
  | wrBuf k w =>
    cases performed
    rw [writeBuf] at out
    split at out <;> cases out
  | _ => cases performed; cases out

/-- A strobe that puts out a sample is one in a TX state. -/
theorem transmitting_of_sample {v : Byte} (performed : exec .evSampleStrobe s = .next t) (out : t.response = .sample v) :
    s.transmitting = true := by
  by_contra idle
  rw [exec_strobe_of_not_transmitting (by simpa using idle)] at performed
  cases performed
  cases out

@[simp] theorem atBitBoundary_pttAsserted (P : Params) (s : State) : (atBitBoundary P s).pttAsserted = s.pttAsserted :=
  ite_keeps (loadBit_pttAsserted P s) rfl

/-- Settles O50: a sample is the output of a strobe in a TX state, where the relations have the line keyed, and a strobe
leaves the line alone. -/
theorem samplesOnlyWhileKeyed : Obligations.SamplesOnlyWhileKeyed := by
  unfold Obligations.SamplesOnlyWhileKeyed
  intro s t i relations performed v out
  obtain rfl := strobe_of_sample performed out
  have tx := transmitting_of_sample performed out
  have keyed := (loadReady_of_transmitting relations tx).keyed
  rw [exec_strobe_of_transmitting tx] at performed
  cases performed
  exact ⟨keyed, (atBitBoundary_pttAsserted _ _).trans keyed⟩

end Sys2Proof.Proofs
end

section
/-! 44_ptt_sequencer R316: a wait of N milliseconds. Lead wait and trail wait are one argument about a counter that a tick
decrements, with what the wait keeps as its invariant. -/

namespace Sys2Proof.Proofs
open Sys2Proof Sys2Proof.Machine

variable {s t : State}

/-- A wait: where `Waiting` holds and the counter is not 0, a tick decrements the counter and keeps `Waiting`. -/
def CountsDown (Waiting : State → Prop) (counter : State → Half) : Prop :=
  ∀ s, Waiting s → counter s ≠ 0 →
    ∃ t, exec .evTimeTick s = .next t ∧ Waiting t ∧ counter t = counter s - 1

/-- `n` ticks of a wait that has at least `n` left. -/
theorem CountsDown.ticks {Waiting : State → Prop} {counter : State → Half} (wait : CountsDown Waiting counter) (n : Nat)
    (waiting : Waiting s) (left : n ≤ (counter s).toNat) :
    ∃ t, performAll (List.replicate n .evTimeTick) s = .next t ∧ Waiting t ∧
      (counter t).toNat = (counter s).toNat - n := by
  induction n generalizing s with
  | zero => exact ⟨s, rfl, waiting, rfl⟩
  | succ n ih =>
    have more : counter s ≠ 0 := fun none => by simp [none] at left
    obtain ⟨u, ticked, still, count⟩ := wait s waiting more
    have fewer : (counter u).toNat = (counter s).toNat - 1 := by
      rw [count]
      bv_omega
    obtain ⟨t, run, last, rest⟩ := ih still (by omega)
    exact ⟨t, (performAll_cons ticked).trans run, last, by omega⟩

theorem performAll_singleton (i : Instr) (s : State) : performAll [i] s = exec i s := by
  unfold performAll
  split <;> simp [*]

/-- All ticks of a wait, and the one after, which finds the counter at 0. -/
theorem CountsDown.elapses {Waiting : State → Prop} {counter : State → Half} (wait : CountsDown Waiting counter)
    (waiting : Waiting s) :
    ∃ t, Waiting t ∧ counter t = 0 ∧
      performAll (List.replicate ((counter s).toNat + 1) .evTimeTick) s = exec .evTimeTick t := by
  obtain ⟨t, run, last, count⟩ := wait.ticks _ waiting le_rfl
  refine ⟨t, last, BitVec.eq_of_toNat_eq (by simpa using count), ?_⟩
  rw [List.replicate_succ', performAll_append run, performAll_singleton]

/-- A state that differs from `s` in the two wait counters and the output only. -/
def CountersOnly (s t : State) : Prop :=
  t = { s with leadCnt := t.leadCnt, trailCnt := t.trailCnt, response := t.response }

theorem countLead_countersOnly (h : CountersOnly s t) : CountersOnly s (respond .none (countLead t)) := by
  unfold CountersOnly at *
  rw [h]
  rfl

theorem countTrail_countersOnly (h : CountersOnly s t) : CountersOnly s (respond .none (countTrail t)) := by
  unfold CountersOnly at *
  rw [h]
  rfl

theorem CountersOnly.seqState (h : CountersOnly s t) : t.seqState = s.seqState := (congrArg State.seqState h).trans rfl

theorem CountersOnly.drained (h : CountersOnly s t) : t.drained = s.drained := (congrArg State.drained h).trans rfl

theorem CountersOnly.pttAsserted (h : CountersOnly s t) : t.pttAsserted = s.pttAsserted :=
  (congrArg State.pttAsserted h).trans rfl

theorem CountersOnly.latPre (h : CountersOnly s t) : t.latPre = s.latPre := (congrArg State.latPre h).trans rfl

theorem CountersOnly.framerFresh (h : CountersOnly s t) (fresh : s.framerFresh) : t.framerFresh := by
  rw [h]
  exact fresh

/-- The lead wait of a session (R315). -/
theorem leadWait (assert : s.seqState = .pttAssert) : CountsDown (CountersOnly s) State.leadCnt := fun t wait more => by
  refine ⟨respond .none (countLead t), ?_, countLead_countersOnly wait, rfl⟩
  rw [exec_tick, timeTick_of_lead (wait.seqState.trans assert) more]

/-- The trail wait of a session (R315). -/
theorem trailWait (release : s.seqState = .pttRelease) (drained : s.drained = true) :
    CountsDown (CountersOnly s) State.trailCnt := fun t wait more => by
  refine ⟨respond .none (countTrail t), ?_, countTrail_countersOnly wait, rfl⟩
  rw [exec_tick, timeTick_of_trail (wait.seqState.trans release) (wait.drained.trans drained) more]

/-- The tick after the lead wait loads the first bit. -/
theorem performAll_leadWait (assert : s.seqState = .pttAssert) :
    ∃ t, CountersOnly s t ∧ performAll (List.replicate (s.leadCnt.toNat + 1) .evTimeTick) s =
      .next (respond .none (loadBit Config.block t)) := by
  obtain ⟨t, wait, elapsed, run⟩ := (leadWait assert).elapses (s := s) rfl
  refine ⟨t, wait, run.trans ?_⟩
  rw [exec_tick, timeTick_of_lead_over (wait.seqState.trans assert) elapsed]

/-- The tick after the trail wait ends the session. -/
theorem performAll_trailWait (release : s.seqState = .pttRelease) (drained : s.drained = true) :
    ∃ t, CountersOnly s t ∧ performAll (List.replicate (s.trailCnt.toNat + 1) .evTimeTick) s =
      .next (respond .none (endSession t)) := by
  obtain ⟨t, wait, elapsed, run⟩ := (trailWait release drained).elapses (s := s) rfl
  refine ⟨t, wait, run.trans ?_⟩
  rw [exec_tick, timeTick_of_trail_over (wait.seqState.trans release) (wait.drained.trans drained) elapsed]

/-- Settles O56: the two waits, each with the tick that finds its counter at 0. -/
theorem waitsEndAtTheTickAfterTheLast : Obligations.WaitsEndAtTheTickAfterTheLast := by
  unfold Obligations.WaitsEndAtTheTickAfterTheLast
  refine ⟨fun s n assert fresh flags => ⟨fun left => ?_, ?_⟩, fun s n release drained => ⟨fun left => ?_, ?_⟩⟩
  · obtain ⟨t, run, wait, count⟩ := (leadWait assert).ticks (s := s) n rfl left
    exact ⟨t, run, wait.seqState.trans assert, count, wait.pttAsserted⟩
  · obtain ⟨t, wait, run⟩ := performAll_leadWait assert
    exact ⟨_, run, loadBit_seqState_of_fresh (wait.framerFresh fresh) (wait.latPre ▸ flags)⟩
  · obtain ⟨t, run, wait, count⟩ := (trailWait release drained).ticks (s := s) n rfl left
    exact ⟨t, run, wait.seqState.trans release, count, wait.pttAsserted⟩
  · obtain ⟨t, wait, run⟩ := performAll_trailWait release drained
    exact ⟨_, run, rfl, rfl, rfl⟩

end Sys2Proof.Proofs
end

section
/-! 44_ptt_sequencer R325: a whole session. While the block is on the air its framer is the one of O53, which sends the session's
bits; each bit is loaded at the end of the 88 samples of the one before, and the last load finds END. -/

namespace Sys2Proof.Proofs
open Sys2Proof Sys2Proof.Machine

variable {P : Params} {m s t u v w : State} {b : Bool}

/-! ## The framer beside the modulator -/

/-- The state `w` with sequencer state, drain flag, modulator and output of `m`: what the strobes of a session change beside the
framer. -/
def onAir (m w : State) : State :=
  { w with
    seqState := m.seqState, drained := m.drained, tone := m.tone, phaseAcc := m.phaseAcc, phaseInc := m.phaseInc,
    sampleIndex := m.sampleIndex, sampleCount := m.sampleCount, response := m.response }

theorem enterFrame_onAir : enterFrame (onAir m w) = onAir m (enterFrame w) := by
  rw [enterFrame, enterFrame, apply_ite (onAir m)]
  rfl

theorem enterTail_onAir : enterTail (onAir m w) = onAir m (enterTail w) := by
  rw [enterTail, enterTail, apply_ite (onAir m)]
  rfl

theorem enterDone_onAir : enterDone (onAir m w) = onAir m (enterDone w) := by
  rw [enterDone, enterDone, apply_ite (onAir m)]
  rfl

theorem framerPhase_onAir : framerPhase (onAir m w) = onAir m (framerPhase w) := by
  rw [framerPhase, enterFrame_onAir, enterTail_onAir, enterDone_onAir, framerPhase]

theorem flagBitStep_onAir : flagBitStep (onAir m w) = ((flagBitStep w).1, onAir m (flagBitStep w).2) := by
  rw [flagBitStep, flagBitStep, apply_ite (onAir m)]
  rfl

theorem frameBitStep_onAir : frameBitStep (onAir m w) = ((frameBitStep w).1, onAir m (frameBitStep w).2) := by
  rw [frameBitStep_eq, frameBitStep_eq]
  rfl

theorem framerEmit_onAir : framerEmit (onAir m w) = ((framerEmit w).1, onAir m (framerEmit w).2) := by
  have phase : (onAir m w).encState = w.encState := rfl
  unfold framerEmit
  rw [phase]
  cases w.encState with
  | idle => rfl
  | preamble => exact flagBitStep_onAir
  | frame =>
    have ones : (onAir m w).ones = w.ones := rfl
    dsimp only
    rw [ones, frameBitStep_onAir]
    split <;> rfl
  | tail => exact flagBitStep_onAir
  | done => rfl

/-- `next_bit()` neither reads nor writes the modulator. -/
theorem nextBit_onAir : nextBit (onAir m w) = ((nextBit w).1, onAir m (nextBit w).2) := by
  rw [nextBit, framerPhase_onAir, framerEmit_onAir, nextBit]

/-- `u` is `w` but for the modulator's side. -/
def AirOnly (w u : State) : Prop := u = onAir u w

theorem AirOnly.out (h : AirOnly w u) : (nextBit u).1 = (nextBit w).1 := by
  rw [h, nextBit_onAir]

theorem AirOnly.respond (h : AirOnly w u) (r : Response) : AirOnly w (respond r u) := by
  unfold AirOnly at *
  rw [h]
  rfl

theorem AirOnly.loadBit (h : AirOnly w u) : AirOnly (nextBit w).2 (loadBit P u) := by
  unfold AirOnly
  rcases loadBit_cases P u with ⟨_, e⟩ | ⟨b, _, e⟩ <;> rw [e, h, nextBit_onAir] <;> rfl

theorem AirOnly.samples (h : AirOnly w u) (k : Nat) : AirOnly w (afterSample^[k] u) := by
  unfold AirOnly at *
  rw [iterate_afterSample, h]
  rfl

/-! ## Intervals -/

/-- The start of a bit interval: on the air, at sample 0. -/
structure AtInterval (s : State) : Prop where
  tx : s.transmitting = true
  start : s.sampleIndex = 0

/-- The load of a bit starts an interval. -/
theorem loadBit_atInterval (out : (nextBit s).1 = .bit b) : AtInterval (loadBit P s) := by
  have phase := mt (nextBit_end_iff s).2 (by simp [out])
  refine ⟨?_, loadBit_sampleIndex⟩
  rw [loadBit_of_bit P out, transmitting_iff]
  cases e : (nextBit s).2.encState <;> simp_all [modulateBit, txStateOf]

/-- One interval: 88 samples, and the load of the next bit (43_afsk R289, R290). -/
theorem AtInterval.performAll (h : AtInterval s) : performAll (List.replicate 88 .evSampleStrobe) s =
    .next (loadBit Config.block (afterSample^[88] s)) := by
  have full : (afterSample^[88] s).sampleIndex.toNat = Config.block.spb := by
    rw [iterate_afterSample_sampleIndex (by simp [h.start]), h.start]
    rfl
  exact (performAll_strobes 87 h.tx (by simp [h.start])).trans (congrArg Host.Outcome.next (if_pos full))

theorem sampleCount_interval (s : State) :
    (loadBit P (afterSample^[88] s)).sampleCount = s.sampleCount + BitVec.ofNat 32 88 := by
  rw [loadBit_sampleCount, iterate_afterSample]

/-- The intervals of the bits left and of the one that is on the air, to the load that finds END. -/
theorem performAll_intervals (bits : List Bool) (air : AirOnly w u) (interval : AtInterval u)
    (left : (pullBits (bits.length + 1) w).1 = bits.map FramerOutput.bit ++ [.endOfSession]) :
    ∃ t, performAll (List.replicate ((bits.length + 1) * 88) .evSampleStrobe) u = .next t ∧
      AirOnly (pullBits (bits.length + 1) w).2 t ∧ t.seqState = .pttRelease ∧ t.drained = false ∧
      t.sampleCount = u.sampleCount + BitVec.ofNat 32 ((bits.length + 1) * 88) := by
  have sampled := air.samples 88
  induction bits generalizing w u with
  | nil =>
    have out : (nextBit (afterSample^[88] u)).1 = .endOfSession := sampled.out.trans (List.head_eq_of_cons_eq left)
    refine ⟨_, interval.performAll, sampled.loadBit, ?_, ?_, sampleCount_interval u⟩ <;> rw [loadBit_of_end _ out] <;> rfl
  | cons b bits ih =>
    have out : (nextBit (afterSample^[88] u)).1 = .bit b := sampled.out.trans (List.head_eq_of_cons_eq left)
    obtain ⟨t, run, last, release, undrained, count⟩ := ih sampled.loadBit (loadBit_atInterval out)
      (List.tail_eq_of_cons_eq left) (sampled.loadBit.samples 88)
    refine ⟨t, ?_, last, release, undrained, ?_⟩
    · rw [List.length_cons, Nat.succ_mul, Nat.add_comm, List.replicate_add, performAll_append interval.performAll]
      exact run
    · rw [count, sampleCount_interval, BitVec.add_assoc, ← BitVec.ofNat_add, List.length_cons, Nat.add_comm 88,
        ← Nat.succ_mul]

/-! ## The length of a session -/

/-- At most one bit is stuffed for each bit, and one at the end. -/
theorem length_stuff_le (run : Nat) (bits : List Bool) : (stuff run bits).length ≤ 2 * bits.length + 1 := by
  induction bits generalizing run with
  | nil =>
    unfold stuff
    split <;> simp
  | cons b bits ih =>
    have stuffed := ih (if b then 1 else 0)
    have plain := ih (if b then run + 1 else 0)
    unfold stuff
    split <;> simp only [List.length_cons] <;> omega

theorem length_sessionStream_le (preambleFlags tailFlags : Nat) (body : List Byte) :
    (sessionStream preambleFlags tailFlags body).length ≤ 8 * preambleFlags + 8 * tailFlags + 16 * (body.length + 2) + 1 := by
  have frame := length_stuff_le 0 (frameStream body)
  rw [length_frameStream] at frame
  simp only [sessionStream, List.length_append, length_flagsStream]
  omega

theorem sessionStream_ne_nil {preambleFlags : Nat} (flags : preambleFlags ≠ 0) (tailFlags : Nat) (body : List Byte) :
    sessionStream preambleFlags tailFlags body ≠ [] := by
  refine List.ne_nil_of_length_pos ?_
  simp only [sessionStream, List.length_append, length_flagsStream]
  omega

/-- The sample count of a legal session does not wrap (43_afsk R288). -/
theorem samples_of_session_lt {preambleFlags tailFlags : Nat} {body : List Byte} (preamble : preambleFlags ≤ 150)
    (tail : tailFlags ≤ 75) (short : body.length ≤ 328) :
    (sessionStream preambleFlags tailFlags body).length * 88 < 2 ^ 32 := by
  have length := length_sessionStream_le preambleFlags tailFlags body
  omega

/-! ## The parts of a session -/

/-- The error code and the frame buffer, which no part of a session that ends normally writes. -/
structure KeepsHost (s t : State) : Prop where
  errCode : t.errCode = s.errCode
  buf : t.buf = s.buf
  draws : t.draws = s.draws

theorem KeepsHost.trans (h : KeepsHost s t) (k : KeepsHost t u) : KeepsHost s u :=
  ⟨k.errCode.trans h.errCode, k.buf.trans h.buf, k.draws.trans h.draws⟩

theorem CountersOnly.keepsHost (h : CountersOnly s t) : KeepsHost s t := by
  rw [h]
  exact ⟨rfl, rfl, rfl⟩

theorem keepsHost_of_framerOnly (h : FramerOnly s t) : KeepsHost s t := by
  rw [h]
  exact ⟨rfl, rfl, rfl⟩

theorem AirOnly.keepsHost (h : AirOnly w u) : KeepsHost w u := by
  rw [h]
  exact ⟨rfl, rfl, rfl⟩

/-- What is latched in `v` for the session that a SEND in `s` starts (R312). -/
structure Latched (s v : State) : Prop where
  fresh : v.framerFresh
  len : v.latLen = s.frameLen
  pre : v.latPre.toNat = nflags s.preambleMs.toNat
  tail : v.latTail.toNat = nflags s.tailMs.toNat
  trail : v.latTrail = s.pttTrailMs
  body : v.body = (List.range s.frameLen.toNat).map s.bufByte
  count : v.sampleCount = 0
  host : KeepsHost s v

theorem startSession_latched (config : s.configLegal = true) : Latched s (respond .none (startSession s)) := by
  obtain ⟨preambleMs, tailMs⟩ := configLegal_iff.1 config
  have pre := nflags_preamble preambleMs
  have tail := nflags_tail tailMs
  have fresh : (respond .none (startSession s)).framerFresh := ⟨rfl, rfl, rfl, rfl, rfl, rfl⟩
  exact ⟨fresh, rfl, toNat_flagLatch pre.2, toNat_flagLatch (by omega), rfl, rfl, rfl, ⟨rfl, rfl, rfl⟩⟩

theorem Latched.wait (h : Latched s t) (wait : CountersOnly t v) : Latched s v := by
  rw [wait]
  exact ⟨h.fresh, h.len, h.pre, h.tail, h.trail, h.body, h.count, ⟨h.host.errCode, h.host.buf, h.host.draws⟩⟩

/-- SEND and the lead wait: the tick after it loads the first bit of the session latched. -/
theorem performAll_keyUp (ready : s.seqState = .ready) (config : s.configLegal = true)
    (length : s.lengthLegal Config.block = true) :
    ∃ v, Latched s v ∧ performAll ([.send] ++ List.replicate (s.pttLeadMs.toNat + 1) .evTimeTick) s =
      .next (respond .none (loadBit Config.block v)) := by
  have started : performAll [.send] s = .next (respond .none (startSession s)) := by
    rw [performAll_singleton, exec_send, sendCommand_of_ready config length (busy_eq_false_iff.2 ready)]
  obtain ⟨v, wait, run⟩ := performAll_leadWait (s := respond .none (startSession s)) rfl
  exact ⟨v, (startSession_latched config).wait wait, (performAll_append started).trans run⟩

/-- What the strobes of the session that is fresh in `v` leave: the load that finds END was made. -/
structure Sent (v t : State) : Prop where
  release : t.seqState = .pttRelease
  undrained : t.drained = false
  crc : t.crc = crcOf v.body
  fcs : t.fcs = fcsOf v.body
  trail : t.latTrail = v.latTrail
  count : t.sampleCount = v.sampleCount +
    BitVec.ofNat 32 ((sessionStream v.latPre.toNat v.latTail.toNat v.body).length * 88)
  host : KeepsHost v t

/-- From the load of the first bit on, the strobes of the session's bits lead to the load that finds END. -/
theorem performAll_air (fresh : v.framerFresh) (long : 1 ≤ v.latLen.toNat) (short : v.latLen.toNat ≤ 328)
    (flags : v.latPre.toNat ≠ 0) :
    ∃ t, Sent v t ∧ performAll
      (List.replicate ((sessionStream v.latPre.toNat v.latTail.toNat v.body).length * 88) .evSampleStrobe)
      (respond .none (loadBit Config.block v)) = .next t := by
  have seen := observe_session fresh long short 1
  obtain ⟨b, bits, stream⟩ := List.exists_cons_of_ne_nil (sessionStream_ne_nil flags v.latTail.toNat v.body)
  rw [stream] at seen
  obtain ⟨sent, registers⟩ := Prod.ext_iff.1 seen
  obtain ⟨crc, fcs⟩ := Prod.ext_iff.1 registers
  have interval := loadBit_atInterval (P := Config.block) (List.head_eq_of_cons_eq sent)
  have air : AirOnly v v := rfl
  obtain ⟨t, run, last, release, undrained, count⟩ := performAll_intervals bits
    ((air.loadBit (P := Config.block)).respond .none) ⟨interval.tx, interval.start⟩ (List.tail_eq_of_cons_eq sent)
  rw [respond_sampleCount, loadBit_sampleCount] at count
  have framer : FramerOnly v (pullBits (bits.length + 2) v).2 := pullBits_framerOnly _ v
  have trailAir : t.latTrail = (pullBits (bits.length + 2) v).2.latTrail := (congrArg State.latTrail last).trans rfl
  have trailFramer : (pullBits (bits.length + 2) v).2.latTrail = v.latTrail :=
    (congrArg State.latTrail framer).trans rfl
  exact ⟨t,
    { release := release
      undrained := undrained
      crc := (congrArg State.crc last).trans crc
      fcs := (congrArg State.fcs last).trans fcs
      trail := trailAir.trans trailFramer
      count := stream ▸ count
      host := (keepsHost_of_framerOnly framer).trans last.keepsHost }, stream ▸ run⟩

/-- The drain report and the trail wait: the tick after it ends the session. -/
theorem performAll_release (release : s.seqState = .pttRelease) (undrained : s.drained = false) :
    ∃ z, CountersOnly (noteDrain s) z ∧
      performAll ([.evSinkDrained] ++ List.replicate (s.latTrail.toNat + 1) .evTimeTick) s =
        .next (respond .none (endSession z)) := by
  have noted : performAll [.evSinkDrained] s = .next (respond .none (noteDrain s)) := by
    rw [performAll_singleton, exec_drained, if_pos ⟨release, undrained⟩]
  obtain ⟨z, wait, run⟩ := performAll_trailWait (s := respond .none (noteDrain s)) release rfl
  exact ⟨z, wait.trans rfl, (performAll_append noted).trans run⟩

/-! ## The whole session -/

/-- Settles O58: SEND and the lead wait latch the session and load its first bit, the strobes send it, and the drain report and
the trail wait release the transmitter. -/
theorem completeSessionRunsItsTimeline : Obligations.CompleteSessionRunsItsTimeline := by
  unfold Obligations.CompleteSessionRunsItsTimeline
  intro s ready preambleLeast preambleMost tailLeast tailMost long short body bits
  have config : s.configLegal = true := configLegal_iff.2 ⟨⟨preambleLeast, preambleMost⟩, tailLeast, tailMost⟩
  have preamble := nflags_preamble ⟨preambleLeast, preambleMost⟩
  have tail := nflags_tail ⟨tailLeast, tailMost⟩
  obtain ⟨v, latched, keyUp⟩ := performAll_keyUp ready config (lengthLegal_iff.2 ⟨long, short⟩)
  obtain ⟨t, sent, strobes⟩ := performAll_air latched.fresh (latched.len ▸ by omega) (latched.len ▸ short)
    (latched.pre ▸ by omega)
  obtain ⟨z, wait, released⟩ := performAll_release sent.release sent.undrained
  have stream : sessionStream v.latPre.toNat v.latTail.toNat v.body = bits := by
    rw [latched.pre, latched.tail, latched.body]
  have count := sent.count
  have noWrap : bits.length * 88 < 2 ^ 32 := samples_of_session_lt preamble.2 tail.2 (by simpa [body] using short)
  rw [stream, latched.count, zero_add] at count
  rw [stream] at strobes
  rw [sent.trail, latched.trail] at released
  have drain : KeepsHost t (noteDrain t) := ⟨rfl, rfl, rfl⟩
  have host : KeepsHost s z := ((latched.host.trans sent.host).trans drain).trans wait.keepsHost
  refine ⟨respond .none (endSession z), ?_, rfl, rfl, rfl, rfl, ?_, ?_, ?_, host.errCode, bufByte_congr host.buf host.draws⟩
  · have keyed := (performAll_append keyUp).trans strobes
    rw [List.append_assoc _ [Instr.evSinkDrained]]
    exact (performAll_append keyed).trans released
  · have kept : z.sampleCount = t.sampleCount := (congrArg State.sampleCount wait).trans rfl
    show z.sampleCount.toNat = _
    rw [kept, count, BitVec.toNat_ofNat, Nat.mod_eq_of_lt noWrap]
  · exact ((congrArg State.fcs wait).trans sent.fcs).trans (congrArg fcsOf latched.body)
  · exact ((congrArg State.crc wait).trans sent.crc).trans (congrArg crcOf latched.body)

end Sys2Proof.Proofs
end

section
/-! 45_host_bus: what a register shows. A word is an OR of fields, each at its place; reading a field back is one argument for
every register. -/

namespace Sys2Proof.Proofs
open Sys2Proof Sys2Proof.Machine

variable {n start len place : Nat} {x : BitVec n}

/-! ## Fields of a word -/

/-- A value at a place of a word; `bitAt_eq_fieldAt`, `statusWord_eq` and the like tie it to what the registers show. -/
def fieldAt (x : BitVec n) (place : Nat) : Word := x.setWidth 32 <<< place

@[simp] theorem getLsbD_fieldAt (x : BitVec n) (place k : Nat) :
    (fieldAt x place).getLsbD k = (decide (k < 32) && decide (place ≤ k) && x.getLsbD (k - place)) := by
  rw [fieldAt, BitVec.getLsbD_shiftLeft, BitVec.getLsbD_setWidth]
  by_cases below : k < place
  · have outside : ¬ place ≤ k := by omega
    simp [below, outside]
  · have inside : place ≤ k := by omega
    by_cases wide : k < 32
    · have narrow : k - place < 32 := by omega
      simp [below, inside, wide, narrow]
    · simp [wide]

@[simp] theorem getElem_fieldAt (x : BitVec n) (place k : Nat) (wide : k < 32) :
    (fieldAt x place)[k] = (decide (place ≤ k) && x.getLsbD (k - place)) := by
  rw [← BitVec.getLsbD_eq_getElem, getLsbD_fieldAt, decide_eq_true wide, Bool.true_and]

/-- A field is read back at its place. -/
@[simp] theorem extractLsb'_fieldAt_same (fits : place + n ≤ 32) : (fieldAt x place).extractLsb' place n = x := by
  apply BitVec.eq_of_getLsbD_eq
  intro k inside
  have shown : place + k < 32 := by omega
  simp [inside, shown]

/-- A field puts nothing elsewhere. -/
@[simp] theorem extractLsb'_fieldAt_other (apart : start + len ≤ place ∨ place + n ≤ start) :
    (fieldAt x place).extractLsb' start len = 0 := by
  apply BitVec.eq_of_getLsbD_eq
  intro k inside
  rcases apart with below | above
  · have outside : ¬ place ≤ start + k := by omega
    simp [outside]
  · have outside : x.getLsbD (start + k - place) = false := BitVec.getLsbD_of_ge x _ (by omega)
    simp [outside]

theorem bitAt_eq_fieldAt (b : Bool) (place : Nat) : bitAt b place = fieldAt (BitVec.ofBool b) place := rfl

theorem setWidth_eq_fieldAt (x : BitVec n) : x.setWidth 32 = fieldAt x 0 := (BitVec.shiftLeft_zero _).symm

theorem toNat_bitAt_lt (b : Bool) {width : Nat} (inside : place < width) : (bitAt b place).toNat < 2 ^ width := by
  have one : b.toNat ≤ 1 := Bool.toNat_le b
  have power : 2 ^ place < 2 ^ width := Nat.pow_lt_pow_right (by omega) inside
  calc (bitAt b place).toNat ≤ b.toNat * 2 ^ place := by
        simpa [bitAt, BitVec.toNat_shiftLeft, Nat.shiftLeft_eq] using Nat.mod_le _ _
    _ ≤ 2 ^ place := (Nat.mul_le_mul_right _ one).trans_eq (one_mul _)
    _ < 2 ^ width := power

/-! ## CTRL and EVENTS (R357, R360) -/

/-- The places of the four bits bound the word. -/
theorem toNat_ctrlWord_lt (s : State) : s.ctrlWord.toNat < 16 := by
  have bit (b : Bool) {place : Nat} (inside : place < 4) := toNat_bitAt_lt b inside
  exact Nat.or_lt_two_pow (Nat.or_lt_two_pow (Nat.or_lt_two_pow (bit _ (by omega)) (bit _ (by omega)))
    (bit _ (by omega))) (bit _ (by omega))

theorem ctrlWord_bits (s : State) : s.ctrlWord.getLsbD 0 = s.pttPol ∧ s.ctrlWord.getLsbD 1 = s.nrziInit ∧
    s.ctrlWord.getLsbD 2 = s.ieDone ∧ s.ctrlWord.getLsbD 3 = s.ieErr ∧ s.ctrlWord.toNat < 16 := by
  refine ⟨?_, ?_, ?_, ?_, toNat_ctrlWord_lt s⟩ <;> simp [State.ctrlWord, bitAt_eq_fieldAt]

/-- The places of the three bits bound the word. -/
theorem toNat_eventsWord_lt (s : State) : s.eventsWord.toNat < 8 := by
  have bit (b : Bool) {place : Nat} (inside : place < 3) := toNat_bitAt_lt b inside
  exact Nat.or_lt_two_pow (Nat.or_lt_two_pow (bit _ (by omega)) (bit _ (by omega))) (bit _ (by omega))

theorem eventsWord_bits (s : State) : s.eventsWord.getLsbD 0 = s.evDone ∧ s.eventsWord.getLsbD 1 = s.evErr ∧
    s.eventsWord.getLsbD 2 = s.evAccErr ∧ s.eventsWord.toNat < 8 := by
  refine ⟨?_, ?_, ?_, toNat_eventsWord_lt s⟩ <;> simp [State.eventsWord, bitAt_eq_fieldAt]

/-- Settles O15: each bit is read back at its place, and the bits' places bound the word. -/
theorem ctrlAndEventsReadTheirBits : Obligations.CtrlAndEventsReadTheirBits := by
  unfold Obligations.CtrlAndEventsReadTheirBits
  exact fun s => ⟨⟨s.ctrlWord, rfl, ctrlWord_bits s⟩, s.eventsWord, rfl, eventsWord_bits s⟩

/-! ## STATUS (R358) -/

theorem statusWord_eq (s : State) : s.statusWord =
    fieldAt s.seqState.code 0 ||| fieldAt s.encState.code 4 ||| fieldAt (BitVec.ofBool s.busy) 8 |||
      fieldAt (BitVec.ofBool s.pttAsserted) 9 ||| fieldAt (BitVec.ofBool s.pttPin) 10 ||| fieldAt s.tone.code 11 |||
      fieldAt (BitVec.ofBool s.drained) 12 ||| fieldAt (BitVec.ofBool s.cancelPend) 13 ||| fieldAt s.errCode.code 16 := by
  rw [← setWidth_eq_fieldAt]
  rfl

/-- Every field of STATUS is read back at its place, and no field reaches into a reserved bit. -/
theorem statusWord_fields (s : State) :
    s.statusWord.extractLsb' 0 3 = s.seqState.code ∧ s.statusWord.getLsbD 3 = false ∧
    s.statusWord.extractLsb' 4 3 = s.encState.code ∧ s.statusWord.getLsbD 7 = false ∧
    s.statusWord.getLsbD 8 = s.busy ∧ s.statusWord.getLsbD 9 = s.pttAsserted ∧ s.statusWord.getLsbD 10 = s.pttPin ∧
    s.statusWord.extractLsb' 11 1 = s.tone.code ∧ s.statusWord.getLsbD 12 = s.drained ∧
    s.statusWord.getLsbD 13 = s.cancelPend ∧ s.statusWord.extractLsb' 14 2 = 0 ∧
    s.statusWord.extractLsb' 16 4 = s.errCode.code ∧ s.statusWord.extractLsb' 20 12 = 0 := by
  rw [statusWord_eq]
  simp [BitVec.extractLsb'_or]

/-- A bit of a word is its field of width 1. -/
theorem getLsbD_eq_getLsbD_extractLsb' (w : Word) (place : Nat) :
    w.getLsbD place = (w.extractLsb' place 1).getLsbD 0 := by simp

/-- Settles O16: the fields are read back by `statusWord_fields`, and each code is the one that the rule names. -/
theorem statusShowsItsFields : Obligations.StatusShowsItsFields := by
  unfold Obligations.StatusShowsItsFields
  intro s
  obtain ⟨seq, reserved3, enc, reserved7, busy, asserted, pin, tone, drained, cancel, reserved14, code, reserved20⟩ :=
    statusWord_fields s
  refine ⟨s.statusWord, rfl, ?_, reserved3, ?_, reserved7, ?_, asserted, pin, ?_, drained, cancel, reserved14, ?_, reserved20⟩
  · rw [seq]
    cases s.seqState <;> rfl
  · rw [enc]
    cases s.encState <;> rfl
  · rw [busy]
    exact busy_iff
  · rw [getLsbD_eq_getLsbD_extractLsb', tone]
    cases s.tone <;> decide
  · rw [code]
    cases s.errCode <;> rfl

/-! ## Configuration (R363, R365) -/

/-- Settles O17: RDATA is the register widened with zeros. -/
theorem configurationReadsAnswerTheirValue : Obligations.ConfigurationReadsAnswerTheirValue := by
  unfold Obligations.ConfigurationReadsAnswerTheirValue
  intro s
  simp only [BitVec.ofNat_toNat]
  exact ⟨rfl, rfl, rfl, rfl, rfl⟩

/-! ## Observation registers (R370-R374) -/

theorem phaseWord_eq (s : State) : s.phaseWord = fieldAt s.phaseInc 16 ||| fieldAt s.phaseAcc 0 := by
  rw [← setWidth_eq_fieldAt]
  rfl

theorem timersWord_eq (s : State) : s.timersWord = fieldAt s.trailCnt 16 ||| fieldAt s.leadCnt 0 := by
  rw [← setWidth_eq_fieldAt]
  rfl

theorem encPosWord_eq (s : State) : s.encPosWord =
    fieldAt s.sampleIndex 24 ||| fieldAt s.flagsLeft 16 ||| fieldAt s.ones 12 ||| fieldAt s.bitPos 9 ||| fieldAt s.byteIdx 0 := by
  rw [← setWidth_eq_fieldAt]
  rfl

/-- Settles O19: every field is read back at its place; the build constants are evaluated. -/
theorem observationRegistersShowTheState : Obligations.ObservationRegistersShowTheState := by
  unfold Obligations.ObservationRegistersShowTheState
  refine fun s => ⟨⟨s.phaseWord, rfl, ?_⟩, rfl, rfl, rfl, ⟨s.timersWord, rfl, ?_⟩, ⟨s.encPosWord, rfl, ?_⟩⟩
  · rw [phaseWord_eq]
    simp [BitVec.extractLsb'_or]
  · rw [timersWord_eq]
    simp [BitVec.extractLsb'_or]
  · rw [encPosWord_eq]
    simp [BitVec.extractLsb'_or]

end Sys2Proof.Proofs
end

section
/-! 45_host_bus R350-R355, R377: bad accesses and reads, by what an offset names. -/

namespace Sys2Proof.Proofs
open Sys2Proof Sys2Proof.Machine

variable {P : Params} {i : Instr} {s t : State}

/-! ## Bad accesses (R352-R355) -/

/-- Settles O11: a misaligned offset names the misaligned slot, and the operation is decoded by the slot. -/
theorem misalignedAccessIsBad : Obligations.MisalignedAccessIsBad := by
  unfold Obligations.MisalignedAccessIsBad
  refine fun off w s => ⟨fun unaligned => ?_, rfl, rfl⟩
  have named : Names Config.block off .misaligned := .misaligned unaligned
  exact ⟨decode_of_spells (.read named), decode_of_spells (.write w named)⟩

/-- Settles O12: an aligned offset outside the registers and the buffer names no slot. -/
theorem unmappedAccessIsBad : Obligations.UnmappedAccessIsBad := by
  unfold Obligations.UnmappedAccessIsBad
  refine fun off w s => ⟨fun aligned place => ?_, rfl, rfl⟩
  have named : Names Config.block off .unmapped := .unmapped (unmapped_iff.2 ⟨aligned, place⟩)
  exact ⟨decode_of_spells (.read named), decode_of_spells (.write w named)⟩

/-- Settles O13: each of the nine is a bad write. -/
theorem readOnlyWritesAreBad : Obligations.ReadOnlyWritesAreBad := by
  unfold Obligations.ReadOnlyWritesAreBad
  intro w s
  simp only [List.forall_mem_cons, List.not_mem_nil, false_imp_iff, implies_true, and_true]
  exact ⟨rfl, rfl, rfl, rfl, rfl, rfl, rfl, rfl, rfl⟩

/-- Settles O14: both answer 0 and nothing else. -/
theorem writeOnlyReadsAnswerZero : Obligations.WriteOnlyReadsAnswerZero := by
  unfold Obligations.WriteOnlyReadsAnswerZero
  exact fun s => ⟨rfl, rfl⟩

/-! ## Reads (R350) -/

/-- Every register answers a read and is changed by none. -/
theorem exec_readInstr (r : Reg) (s : State) : ∃ v, exec r.readInstr s = .next (respond (.rdata v) s) := by
  cases r <;> exact ⟨_, rfl⟩

theorem exec_rdBuf {k : BitVec 9} (inside : k.toNat < 328) (s : State) :
    exec (.rdBuf k) s = .next (respond (.rdata ((s.bufByte k.toNat).setWidth 32)) s) :=
  congrArg _ (if_pos inside)

/-- A read is a bad read at a bad offset, and elsewhere changes nothing but its answer. -/
theorem exec_readOf {off : Offset} {slot : Slot} (named : Names Config.block off slot) (s : State) :
    (badOffset off ∧ exec (readOf off slot) s = .next (badRead s)) ∨
    (¬ badOffset off ∧ ∃ v, exec (readOf off slot) s = .next (respond (.rdata v) s)) := by
  cases named with
  | misaligned unaligned => exact .inl ⟨.inl unaligned, rfl⟩
  | @bufEntry k inside =>
    have entries : k.toNat < 328 := inside
    have place := toNat_bufOffset k
    exact .inr ⟨by unfold badOffset; omega, _, exec_rdBuf entries s⟩
  | register r =>
    have place := toNat_regOffset r
    exact .inr ⟨by unfold badOffset; omega, exec_readInstr r s⟩
  | unmapped free => exact .inl ⟨.inr (unmapped_iff.1 free).2, rfl⟩

/-- Settles O10: the read is decoded by the slot that the offset names, and the slot says whether the offset is bad. -/
theorem readsChangeNothingBeyondAccErr : Obligations.ReadsChangeNothingBeyondAccErr := by
  unfold Obligations.ReadsChangeNothingBeyondAccErr
  intro off i s decoded
  have named := names_slotOf Config.block off
  have read : decode Config.block ⟨off.setWidth 16, none⟩ = .ok (readOf off (slotOf Config.block off)) :=
    decode_of_spells (.read named)
  cases Except.ok.inj (read.symm.trans decoded)
  rcases exec_readOf named s with ⟨bad, performed⟩ | ⟨good, v, performed⟩
  · exact ⟨0, true, performed, by simp [bad], fun _ => rfl⟩
  · exact ⟨v, s.evAccErr, performed, by simp [good], fun bad => absurd bad good⟩

/-! ## The frame buffer is read (R377) -/

@[simp] theorem loadBit_draws (P : Params) (s : State) : (loadBit P s).draws = s.draws :=
  (congrArg State.draws (loadBit_loadOnly P s)).trans rfl

/-- An entry keeps its byte, written or not, until RESET or a write of that entry. -/
theorem Effect.bufByte_eq (h : Effect P i s t) {k : BitVec 9} (notReset : i ≠ .evReset)
    (notStored : ∀ w, i ≠ .wrBuf k w) : t.bufByte k.toNat = s.bufByte k.toNat := by
  cases h with
  | host _ buf draws => exact bufByte_congr buf draws _
  | reset => exact absurd rfl notReset
  | store j w =>
    have other : k.toNat ≠ j.toNat := fun same => notStored w (by rw [BitVec.eq_of_toNat_eq same])
    exact bufByte_storeBuf_other s _ _ _ other
  | sampleAndLoad | leadEnd => exact bufByte_congr loadBit_buf (loadBit_draws _ _) _
  | _ => exact bufByte_congr rfl rfl _

/-- Settles O20: the read answers the entry's byte, which no effect but RESET's and the entry's own store changes. -/
theorem bufferReadIsStable : Obligations.BufferReadIsStable := by
  unfold Obligations.BufferReadIsStable
  intro k s inside
  simp only [BitVec.ofNat_toNat]
  refine ⟨exec_rdBuf inside s, fun j t performed notReset notStored => ?_⟩
  rw [← (exec_effect performed).bufByte_eq notReset notStored]
  exact exec_rdBuf inside t

end Sys2Proof.Proofs
end

section
/-! 45_host_bus R356-R364, R376: the writes of the host's registers and of the frame buffer. -/

namespace Sys2Proof.Proofs
open Sys2Proof Sys2Proof.Machine

variable {s : State}

/-- The low bits of an operand, as a number. -/
theorem extractLsb'_zero_eq_ofNat (w : Word) {n : Nat} (narrow : n ≤ 32) :
    w.extractLsb' 0 n = BitVec.ofNat n w.toNat := by
  rw [BitVec.ofNat_toNat, BitVec.setWidth_eq_extractLsb' narrow]

/-! ## CTRL (R356) -/

theorem exec_wrCtrl (w : Word) (s : State) : exec (.wrCtrl w) s =
    .next (respond .none { writeLockedCtrl w s with ieDone := operandIeDone w, ieErr := operandIeErr w }) := rfl

theorem ctrlLocked_iff (w : Word) (s : State) :
    ctrlLocked w s = true ↔ s.seqState ≠ .ready ∧ (w.getLsbD 0 ≠ s.pttPol ∨ w.getLsbD 1 ≠ s.nrziInit) := by
  simp [ctrlLocked, busy_iff, operandPttPol, operandNrziInit]

/-- Settles O22, by the lock on PTT_POL and NRZI_INIT. -/
theorem ctrlWriteObeysTheLock : Obligations.CtrlWriteObeysTheLock := by
  unfold Obligations.CtrlWriteObeysTheLock
  refine fun w s => ⟨fun free => ?_, fun busy change => ?_⟩
  · have unlocked : ¬ ctrlLocked w s = true := by
      rw [ctrlLocked_iff]
      tauto
    rw [exec_wrCtrl, writeLockedCtrl, if_neg unlocked]
    rfl
  · rw [exec_wrCtrl, writeLockedCtrl, if_pos ((ctrlLocked_iff w s).2 ⟨busy, change⟩)]
    rfl

/-! ## EVENTS and CMD (R359, R361) -/

theorem clearedBy_eq (clears bit : Bool) : (if clears then false else bit) = (bit && !clears) := by
  cases clears <;> simp

/-- Settles O23: a bit written 1 is cleared, and a bit written 0 stays. -/
theorem eventsWriteClearsOnes : Obligations.EventsWriteClearsOnes := by
  unfold Obligations.EventsWriteClearsOnes
  intro w s
  simp only [← clearedBy_eq]
  rfl

/-- Settles O24: the word is the write of CMD, which `commandInstr` decodes by its operand. -/
theorem cmdWriteDispatches : Obligations.CmdWriteDispatches := by
  unfold Obligations.CmdWriteDispatches
  refine fun w s => ⟨?_, rfl⟩
  have named : Names Config.block Reg.cmd.offset (.register .cmd) := .register .cmd
  exact decode_of_spells (.write w named)

/-! ## FRAME_LEN and the timing registers (R362, R364) -/

theorem exec_wrFrameLen (w : Word) (s : State) : exec (.wrFrameLen w) s =
    .next (respond .none (unlessBusy (fun s => { s with frameLen := operandLen w }) s)) := rfl

theorem exec_wrFrameLen_of_busy (w : Word) (busy : s.seqState ≠ .ready) : exec (.wrFrameLen w) s = .next (badWrite s) := by
  rw [exec_wrFrameLen, unlessBusy_of_busy _ busy]
  rfl

/-- Settles O25, by the two sides of the BUSY lock. -/
theorem frameLenWriteObeysTheLock : Obligations.FrameLenWriteObeysTheLock := by
  unfold Obligations.FrameLenWriteObeysTheLock
  refine fun w s => ⟨fun ready => ?_, exec_wrFrameLen_of_busy w⟩
  rw [exec_wrFrameLen, unlessBusy_of_ready _ ready, operandLen, extractLsb'_zero_eq_ofNat w (by decide)]
  rfl

/-- Settles O26: the low sixteen bits are stored, whatever the sequencer's state. -/
theorem timingWritesAlwaysStore : Obligations.TimingWritesAlwaysStore := by
  unfold Obligations.TimingWritesAlwaysStore
  intro w s
  simp only [← extractLsb'_zero_eq_ofNat w (show 16 ≤ 32 by decide)]
  exact ⟨rfl, rfl, rfl, rfl⟩

/-! ## The frame buffer is written (R376) -/

theorem exec_wrBuf_of_ready {k : BitVec 9} (w : Word) (inside : k.toNat < 328) (ready : s.seqState = .ready) :
    exec (.wrBuf k w) s = .next (respond .none (s.storeBuf k.toNat (operandByte w))) := by
  have stored : writeBuf Config.block k w s = _ := if_pos inside
  rw [unlessBusy_of_ready _ ready] at stored
  exact congrArg _ stored

/-- While BUSY a buffer write is a bad access, whether or not the entry exists. -/
theorem exec_wrBuf_of_busy (k : BitVec 9) (w : Word) (busy : s.seqState ≠ .ready) :
    exec (.wrBuf k w) s = .next (badWrite s) := by
  have refused : writeBuf Config.block k w s = badWrite s := by
    rw [writeBuf, unlessBusy_of_busy _ busy]
    exact ite_self _
  exact congrArg _ refused

/-- Settles O21, by the two sides of the BUSY lock; what the store leaves in each entry is `bufByte_storeBuf`. -/
theorem bufferWriteStoresOneByte : Obligations.BufferWriteStoresOneByte := by
  unfold Obligations.BufferWriteStoresOneByte
  refine fun k w s inside => ⟨fun ready => ⟨_, exec_wrBuf_of_ready w inside ready, fun j => ?_⟩, exec_wrBuf_of_busy k w⟩
  have entry := bufByte_storeBuf s k.toNat j (operandByte w)
  simp only [eq_comm (a := k.toNat)] at entry
  exact entry

end Sys2Proof.Proofs
end

section
/-! 45_host_bus R378: what the host can do while a session runs. -/

namespace Sys2Proof.Proofs
open Sys2Proof Sys2Proof.Machine

variable {i : Instr} {s t : State}

/-- A state that differs from `s` only in what the host can change while BUSY (R378). -/
def SessionKept (s t : State) : Prop :=
  t = { s with
    cancelPend := t.cancelPend, ieDone := t.ieDone, ieErr := t.ieErr, evDone := t.evDone, evErr := t.evErr,
    evAccErr := t.evAccErr, errCode := t.errCode, preambleMs := t.preambleMs, tailMs := t.tailMs,
    pttLeadMs := t.pttLeadMs, pttTrailMs := t.pttTrailMs, response := t.response }

theorem exec_wrCtrl_sessionKept (w : Word) (busy : s.seqState ≠ .ready) :
    ∃ t, exec (.wrCtrl w) s = .next t ∧ SessionKept s t := by
  by_cases same : w.getLsbD 0 = s.pttPol ∧ w.getLsbD 1 = s.nrziInit
  · refine ⟨_, (ctrlWriteObeysTheLock w s).1 (.inr same), ?_⟩
    rw [same.1, same.2]
    rfl
  · exact ⟨_, (ctrlWriteObeysTheLock w s).2 busy (not_and_or.1 same), rfl⟩

theorem sendCommand_sessionKept (P : Params) (busy : s.seqState ≠ .ready) : SessionKept s (sendCommand P s) := by
  rcases sendCommand_cases P s with ⟨_, e⟩ | ⟨_, _, e⟩ | ⟨_, _, _, e⟩ | ⟨_, _, ready, _⟩
  · rw [e]; rfl
  · rw [e]; rfl
  · rw [e]; rfl
  · exact absurd (busy_eq_false_iff.1 ready) busy

theorem readBuf_sessionKept (P : Params) (k : BitVec 9) (s : State) : SessionKept s (readBuf P k s) := by
  unfold readBuf
  split <;> rfl

/-- R378: every operation of the host completes in a BUSY state and keeps the session; the instructions not named here are
reads, refused writes and writes of what the host can change. -/
theorem exec_sessionKept (busy : s.seqState ≠ .ready) (host : hostOperation i) :
    ∃ t, exec i s = .next t ∧ SessionKept s t := by
  cases i with
  | evReset | evSampleStrobe | evTimeTick | evSinkDrained | evSinkFault | invalid => exact host.elim
  | wrCtrl w => exact exec_wrCtrl_sessionKept w busy
  | wrFrameLen w => exact ⟨_, exec_wrFrameLen_of_busy w busy, rfl⟩
  | wrBuf k w => exact ⟨_, exec_wrBuf_of_busy k w busy, rfl⟩
  | wrCrcData w => exact ⟨_, (crcDataWriteFeedsAByte w s).2 busy, rfl⟩
  | crcInit => exact ⟨_, (crcInitRestartsTheGenerator s).2 busy, rfl⟩
  | cancel => exact ⟨_, (cancelSetsTheFlagOnly s).1 busy, rfl⟩
  | send => exact ⟨_, rfl, congrArg (respond .none) (sendCommand_sessionKept _ busy)⟩
  | rdBuf k => exact ⟨_, rfl, readBuf_sessionKept _ k s⟩
  | _ => exact ⟨_, rfl, rfl⟩

/-- Settles O49: the session is kept. -/
theorem hostCannotDisturbASession : Obligations.HostCannotDisturbASession := by
  unfold Obligations.HostCannotDisturbASession
  exact fun s i busy host => exec_sessionKept busy host

end Sys2Proof.Proofs
end

section
/-! 60_exceptions R400-R409: the event bits and the interrupt line. -/

namespace Sys2Proof.Proofs
open Sys2Proof Sys2Proof.Machine

variable {i : Instr} {s t : State}

/-! ## What an operation does to the event bits (R402, R404, R408) -/

/-- DONE and ERR are those of `s`; ACC_ERR is set in `t` if it is set in `s`, and may be set newly (R404). -/
structure KeepsEvents (s t : State) : Prop where
  done : t.evDone = s.evDone
  err : t.evErr = s.evErr
  accErr : s.evAccErr = true → t.evAccErr = true

theorem KeepsEvents.refl (s : State) : KeepsEvents s s := ⟨rfl, rfl, id⟩

theorem KeepsEvents.respond (keeps : KeepsEvents s t) (r : Response) : KeepsEvents s (respond r t) :=
  ⟨keeps.done, keeps.err, keeps.accErr⟩

theorem keepsEvents_unlessBusy {effect : State → State} (free : KeepsEvents s (effect s)) :
    KeepsEvents s (unlessBusy effect s) := by
  rcases unlessBusy_cases effect s with ⟨_, e⟩ | ⟨_, e⟩ <;> rw [e]
  · exact ⟨rfl, rfl, fun _ => rfl⟩
  · exact free

/-- The operations that record an error, each with the codes it may record (R401, R402). -/
inductive Rejects : Instr → ErrCode → Prop
  | send {c : ErrCode} (code : c ∈ [.badConfig, .badLength, .busy]) : Rejects .send c
  | crcInit : Rejects .crcInit .busy
  | badCmd (w : Word) : Rejects (.badCmd w) .badCmd
  | sinkFault : Rejects .evSinkFault .audioFault

/-- What performing the instruction `i` in `s` can do to the event bits, with the condition under which it does it. -/
inductive EventEffect : Instr → State → State → Prop
  | kept {i : Instr} {s t : State} (keeps : KeepsEvents s t) : EventEffect i s t
  /-- 44_ptt_sequencer R320. -/
  | sessionEnd {s : State} (wait : s.seqState = .pttRelease) (drained : s.drained = true) (elapsed : s.trailCnt = 0) :
      EventEffect .evTimeTick s (respond .none (endSession s))
  /-- R402; an abort records its code in the released state `u`. -/
  | rejected {i : Instr} {c : ErrCode} {s u : State} (rejects : Rejects i c) (keeps : KeepsEvents s u) :
      EventEffect i s (respond .none (reject c u))
  /-- 45_host_bus R359. -/
  | cleared (w : Word) {s : State} : EventEffect (.wrEvents w) s (respond .none (clearEvents w s))
  /-- 70_reset_and_hazards R440. -/
  | reset {P : Params} {s : State} : EventEffect .evReset s (respond .none (resetBlock P s))

/-! ## Each operation has one of these effects -/

theorem loadBit_keepsEvents (P : Params) (s : State) : KeepsEvents s (loadBit P s) := by
  have only := loadBit_loadOnly P s
  exact ⟨(congrArg State.evDone only).trans rfl, (congrArg State.evErr only).trans rfl,
    ((congrArg State.evAccErr only).trans rfl).trans⟩

theorem writeLockedCtrl_keepsEvents (w : Word) (s : State) : KeepsEvents s (writeLockedCtrl w s) := by
  rcases writeLockedCtrl_cases w s with e | e <;> rw [e]
  · exact ⟨rfl, rfl, fun _ => rfl⟩
  · exact ⟨rfl, rfl, id⟩

theorem readBuf_keepsEvents (P : Params) (k : BitVec 9) (s : State) : KeepsEvents s (readBuf P k s) := by
  unfold readBuf
  split
  · exact ⟨rfl, rfl, id⟩
  · exact ⟨rfl, rfl, fun _ => rfl⟩

theorem writeBuf_keepsEvents (P : Params) (k : BitVec 9) (w : Word) (s : State) : KeepsEvents s (writeBuf P k w s) := by
  unfold writeBuf
  split
  · exact (keepsEvents_unlessBusy ⟨rfl, rfl, id⟩).respond _
  · exact ⟨rfl, rfl, fun _ => rfl⟩

theorem sampleStrobe_keepsEvents (P : Params) (s : State) : KeepsEvents s (sampleStrobe P s) := by
  rcases sampleStrobe_cases P s with ⟨_, e⟩ | ⟨_, _, e⟩ | ⟨_, _, e⟩ <;> rw [e]
  case inr.inr =>
    have load := loadBit_keepsEvents P (respond (.sample (oneSample P s).1) (oneSample P s).2)
    exact ⟨load.done, load.err, load.accErr⟩
  all_goals exact ⟨rfl, rfl, id⟩

theorem send_eventEffect (P : Params) (s : State) : EventEffect .send s (respond .none (sendCommand P s)) := by
  rcases sendCommand_cases P s with ⟨_, e⟩ | ⟨_, _, e⟩ | ⟨_, _, _, e⟩ | ⟨_, _, _, e⟩ <;> rw [e]
  case inr.inr.inr => exact .kept ⟨rfl, rfl, id⟩
  all_goals exact .rejected (.send (by decide)) (.refl s)

theorem tick_eventEffect (P : Params) (s : State) : EventEffect .evTimeTick s (respond .none (timeTick P s)) := by
  rcases timeTick_cases P s with
    ⟨_, _, e⟩ | ⟨_, _, e⟩ | ⟨wait, drained, elapsed, e⟩ | ⟨_, _, _, e⟩ | ⟨_, _, e⟩ <;> rw [e]
  case inl => exact .kept ((loadBit_keepsEvents P s).respond _)
  case inr.inr.inl => exact .sessionEnd wait drained elapsed
  all_goals exact .kept ⟨rfl, rfl, id⟩

/-- Every operation that is performed has one of these effects; the instructions not named here are reads, which keep the
event bits, and writes of the host's own registers. -/
theorem exec_eventEffect (performed : exec i s = .next t) : EventEffect i s t := by
  cases i with
  | invalid => cases performed
  | evReset => cases performed; exact .reset
  | wrEvents w => cases performed; exact .cleared w
  | badCmd w => cases performed; exact .rejected (.badCmd w) (.refl s)
  | send => cases performed; exact send_eventEffect _ s
  | evTimeTick => cases performed; exact tick_eventEffect _ s
  | evSampleStrobe => cases performed; exact .kept (sampleStrobe_keepsEvents _ s)
  | crcInit =>
    cases performed
    split
    · exact .rejected .crcInit (.refl s)
    · exact .kept ⟨rfl, rfl, id⟩
  | evSinkFault =>
    cases performed
    split
    · exact .rejected .sinkFault ⟨rfl, rfl, id⟩
    · exact .kept ⟨rfl, rfl, id⟩
  | cancel | evSinkDrained =>
    cases performed
    split <;> exact .kept ⟨rfl, rfl, id⟩
  | wrCtrl w =>
    cases performed
    have locked := writeLockedCtrl_keepsEvents w s
    exact .kept ⟨locked.done, locked.err, locked.accErr⟩
  | wrFrameLen | wrCrcData => cases performed; exact .kept ((keepsEvents_unlessBusy ⟨rfl, rfl, id⟩).respond _)
  | rdBuf k => cases performed; exact .kept (readBuf_keepsEvents _ k s)
  | wrBuf k w => cases performed; exact .kept (writeBuf_keepsEvents _ k w s)
  | wrStatus | wrCrc | wrFcs | wrPhase | wrParam0 | wrParam1 | wrSampleCount | wrTimers | wrEncPos | rdUnmapped | wrUnmapped
  | rdMisaligned | wrMisaligned => cases performed; exact .kept ⟨rfl, rfl, fun _ => rfl⟩
  | _ => cases performed; exact .kept ⟨rfl, rfl, id⟩

/-! ## The causes, read off the effect -/

theorem EventEffect.done_set (h : EventEffect i s t) (clear : s.evDone = false) (set : t.evDone = true) :
    i = .evTimeTick ∧ s.seqState = .pttRelease ∧ s.drained = true ∧ s.trailCnt = 0 ∧ t.seqState = .ready := by
  cases h with
  | sessionEnd wait drained elapsed => exact ⟨rfl, wait, drained, elapsed, rfl⟩
  | kept keeps | rejected _ keeps => simp [keeps.done, clear] at set
  | cleared w => simp [clear] at set
  | reset => cases set

theorem EventEffect.err_set (h : EventEffect i s t) (clear : s.evErr = false) (set : t.evErr = true) :
    Rejects i t.errCode := by
  cases h with
  | rejected rejects _ => exact rejects
  | kept keeps => simp [keeps.err, clear] at set
  | sessionEnd _ _ _ => simp [clear] at set
  | cleared w => simp [clear] at set
  | reset => cases set

theorem EventEffect.done_cleared (h : EventEffect i s t) (set : s.evDone = true) (clear : t.evDone = false) :
    i = .evReset ∨ ∃ w, i = .wrEvents w ∧ w.getLsbD 0 = true := by
  cases h with
  | reset => exact .inl rfl
  | cleared w => exact .inr ⟨w, rfl, by simpa [set, operandClearsDone] using clear⟩
  | kept keeps | rejected _ keeps => simp [keeps.done, set] at clear
  | sessionEnd _ _ _ => cases clear

theorem EventEffect.err_cleared (h : EventEffect i s t) (set : s.evErr = true) (clear : t.evErr = false) :
    i = .evReset ∨ ∃ w, i = .wrEvents w ∧ w.getLsbD 1 = true := by
  cases h with
  | reset => exact .inl rfl
  | cleared w => exact .inr ⟨w, rfl, by simpa [set, operandClearsErr] using clear⟩
  | kept keeps => simp [keeps.err, set] at clear
  | sessionEnd _ _ _ => simp [set] at clear
  | rejected _ _ => cases clear

theorem EventEffect.accErr_cleared (h : EventEffect i s t) (set : s.evAccErr = true) (clear : t.evAccErr = false) :
    i = .evReset ∨ ∃ w, i = .wrEvents w ∧ w.getLsbD 2 = true := by
  cases h with
  | reset => exact .inl rfl
  | cleared w => exact .inr ⟨w, rfl, by simpa [set, operandClearsAccErr] using clear⟩
  | kept keeps | rejected _ keeps => simp [keeps.accErr set] at clear
  | sessionEnd _ _ _ => simp [set] at clear

theorem Rejects.cause {c : ErrCode} (h : Rejects i c) :
    (i = .send ∧ c ∈ [.badConfig, .badLength, .busy]) ∨ (i = .crcInit ∧ c = .busy) ∨
    ((∃ w, i = .badCmd w) ∧ c = .badCmd) ∨ (i = .evSinkFault ∧ c = .audioFault) := by
  cases h with
  | send code => exact .inl ⟨rfl, code⟩
  | crcInit => exact .inr (.inl ⟨rfl, rfl⟩)
  | badCmd w => exact .inr (.inr (.inl ⟨⟨w, rfl⟩, rfl⟩))
  | sinkFault => exact .inr (.inr (.inr ⟨rfl, rfl⟩))

/-- Settles O45: each clause reads one bit off the operation's effect on the event bits. -/
theorem eventBitsAreSetAndClearedByTheirCauses : Obligations.EventBitsAreSetAndClearedByTheirCauses := by
  unfold Obligations.EventBitsAreSetAndClearedByTheirCauses
  intro s t i performed
  have effect := exec_eventEffect performed
  exact ⟨effect.done_set, fun clear set => (effect.err_set clear set).cause, effect.done_cleared, effect.err_cleared,
    effect.accErr_cleared⟩

/-! ## The interrupt line (R407) -/

theorem irq_iff (s : State) :
    s.irq = true ↔ (s.evDone = true ∧ s.ieDone = true) ∨ (s.evErr = true ∧ s.ieErr = true) := by
  rw [State.irq, Bool.or_eq_true, Bool.and_eq_true, Bool.and_eq_true]

theorem irq_accErr (s : State) : (accErr s).irq = s.irq := rfl

/-- Settles O47: the formula of R407, which does not mention ACC_ERR. -/
theorem irqIsTheLevelOfEnabledEvents : Obligations.IrqIsTheLevelOfEnabledEvents := by
  unfold Obligations.IrqIsTheLevelOfEnabledEvents
  exact fun s => ⟨irq_iff s, irq_accErr s⟩

end Sys2Proof.Proofs
end

section
/-! 60_exceptions R411: the order given to arrivals of one instant. -/

namespace Sys2Proof.Proofs
open Sys2Proof Sys2Proof.Machine

variable {o : Operation}

/-! ## The rank says the kind of an arrival -/

/-- The place of an event in the order of R411; host accesses have place 2, words of no operation place 6. -/
def eventPlace : Event → Nat
  | .reset => 0
  | .sinkFault => 1
  | .sampleStrobe => 3
  | .sinkDrained => 4
  | .timeTick => 5

theorem eventPlace_eq_iff (e f : Event) : eventPlace e = eventPlace f ↔ e = f := by
  cases e <;> cases f <;> decide

theorem eventPlace_bounds (e : Event) : eventPlace e ≠ 2 ∧ eventPlace e < 6 := by cases e <;> decide

theorem isHostAccess_iff (o : Operation) :
    isHostAccess o = true ↔ opReserved o.op = 0 ∧ (opClass o.op = 0b00 ∨ opClass o.op = 0b01) := by
  simp [isHostAccess, opReserved, opClass]

theorem isNoOperation_iff (o : Operation) :
    isNoOperation o = true ↔ isHostAccess o = false ∧ ∀ e, o.op ≠ eventWord e := by
  simp only [isNoOperation, Bool.and_eq_true, Bool.not_eq_true', bne_iff_ne, and_assoc]
  refine and_congr_right' ⟨fun ⟨reset, fault, strobe, drained, tick⟩ e => ?_,
    fun noEvent => ⟨noEvent .reset, noEvent .sinkFault, noEvent .sampleStrobe, noEvent .sinkDrained, noEvent .timeTick⟩⟩
  cases e
  case reset => exact reset
  case sinkFault => exact fault
  case sampleStrobe => exact strobe
  case sinkDrained => exact drained
  case timeTick => exact tick

theorem rank_of_hostAccess (access : isHostAccess o = true) : Operation.rank o = 2 := by
  obtain ⟨reserved, kind⟩ := (isHostAccess_iff o).1 access
  rw [Operation.rank, if_neg (not_not.2 reserved), if_pos kind]

theorem rank_of_eventWord {e : Event} (event : o.op = eventWord e) : Operation.rank o = eventPlace e := by
  rw [Operation.rank, event]
  cases e <;> rfl

theorem rank_of_noOperation (noOp : isNoOperation o = true) : Operation.rank o = 6 := by
  obtain ⟨noAccess, noEvent⟩ := (isNoOperation_iff o).1 noOp
  rw [← Bool.not_eq_true, isHostAccess_iff] at noAccess
  by_cases reserved : opReserved o.op = 0
  case neg => exact if_pos reserved
  have kind : ¬ (opClass o.op = 0b00 ∨ opClass o.op = 0b01) := fun kind => noAccess ⟨reserved, kind⟩
  rw [Operation.rank, if_neg (not_not.2 reserved), if_neg kind]
  split
  case isFalse => rfl
  case isTrue event =>
    have spellsNone : decodeEvent o.op = none :=
      Option.eq_none_iff_forall_ne_some.2 fun e spelt => noEvent e (eq_eventWord reserved event spelt)
    rw [spellsNone]

theorem rank_cases (o : Operation) :
    (isHostAccess o = true ∧ Operation.rank o = 2) ∨ (∃ e, o.op = eventWord e ∧ Operation.rank o = eventPlace e) ∨
    (isNoOperation o = true ∧ Operation.rank o = 6) := by
  by_cases access : isHostAccess o = true
  case pos => exact .inl ⟨access, rank_of_hostAccess access⟩
  by_cases event : ∃ e, o.op = eventWord e
  case pos => exact .inr (.inl (event.imp fun e word => ⟨word, rank_of_eventWord word⟩))
  have noOp := (isNoOperation_iff o).2 ⟨Bool.eq_false_iff.2 access, not_exists.1 event⟩
  exact .inr (.inr ⟨noOp, rank_of_noOperation noOp⟩)

theorem rank_eq_two_iff (o : Operation) : Operation.rank o = 2 ↔ isHostAccess o = true := by
  refine ⟨fun rank => ?_, rank_of_hostAccess⟩
  rcases rank_cases o with ⟨access, _⟩ | ⟨e, _, place⟩ | ⟨_, place⟩
  · exact access
  · exact absurd (place.symm.trans rank) (eventPlace_bounds e).1
  · exact absurd (place.symm.trans rank) (by decide)

theorem rank_eq_eventPlace_iff (e : Event) (o : Operation) : Operation.rank o = eventPlace e ↔ o.op = eventWord e := by
  refine ⟨fun rank => ?_, rank_of_eventWord⟩
  rcases rank_cases o with ⟨_, place⟩ | ⟨f, word, place⟩ | ⟨_, place⟩
  · exact absurd (rank.symm.trans place) (eventPlace_bounds e).1
  · rw [word, (eventPlace_eq_iff f e).1 (place.symm.trans rank)]
  · exact absurd (rank.symm.trans place) (eventPlace_bounds e).2.ne

theorem rank_eq_six_iff (o : Operation) : Operation.rank o = 6 ↔ isNoOperation o = true := by
  refine ⟨fun rank => ?_, rank_of_noOperation⟩
  rcases rank_cases o with ⟨_, place⟩ | ⟨e, _, place⟩ | ⟨noOp, _⟩
  · exact absurd (place.symm.trans rank) (by decide)
  · exact absurd (place.symm.trans rank) (eventPlace_bounds e).2.ne
  · exact noOp

theorem rank_lt_seven (o : Operation) : Operation.rank o < 7 := by
  rcases rank_cases o with ⟨_, place⟩ | ⟨e, _, place⟩ | ⟨_, place⟩ <;> rw [place]
  · decide
  · exact (eventPlace_bounds e).2.trans (by decide)
  · decide

/-! ## Sorting by a key -/

/-- The elements of a list taken key by key, from 0 up to below `n`, are those whose key is below `n`, in another order. -/
theorem flatMap_filter_perm {α : Type} (key : α → Nat) (l : List α) (n : Nat) :
    ((List.range n).flatMap fun r => l.filter fun x => key x == r).Perm (l.filter fun x => key x < n) := by
  induction n with
  | zero => simp
  | succ n ih =>
    have below : (l.filter fun x => key x < n + 1).filter (fun x => key x < n) = l.filter fun x => key x < n := by
      rw [List.filter_filter]
      exact List.filter_congr fun x _ => by grind
    have here : (l.filter fun x => key x < n + 1).filter (fun x => !decide (key x < n)) = l.filter fun x => key x == n := by
      rw [List.filter_filter]
      exact List.filter_congr fun x _ => by grind
    have split := List.filter_append_perm (fun x => decide (key x < n)) (l.filter fun x => key x < n + 1)
    rw [below, here] at split
    rw [List.range_succ, List.flatMap_append, List.flatMap_singleton]
    exact (ih.append_right _).trans split

theorem serialise_perm (ops : List Operation) : (serialise ops).Perm ops := by
  have sorted := flatMap_filter_perm Operation.rank ops 7
  rwa [List.filter_eq_self.2 fun o _ => decide_eq_true (rank_lt_seven o)] at sorted

theorem filter_rank_event (e : Event) (ops : List Operation) :
    (ops.filter fun o => Operation.rank o == eventPlace e) = ops.filter fun o => o.op == eventWord e :=
  List.filter_congr fun o _ => by rw [Bool.eq_iff_iff, beq_iff_eq, beq_iff_eq, rank_eq_eventPlace_iff]

theorem filter_rank_hostAccess (ops : List Operation) :
    (ops.filter fun o => Operation.rank o == 2) = ops.filter isHostAccess :=
  List.filter_congr fun o _ => by rw [Bool.eq_iff_iff, beq_iff_eq, rank_eq_two_iff]

theorem filter_rank_noOperation (ops : List Operation) :
    (ops.filter fun o => Operation.rank o == 6) = ops.filter isNoOperation :=
  List.filter_congr fun o _ => by rw [Bool.eq_iff_iff, beq_iff_eq, rank_eq_six_iff]

theorem serialise_eq (ops : List Operation) : serialise ops =
    (ops.filter fun o => o.op == eventWord .reset) ++ (ops.filter fun o => o.op == eventWord .sinkFault) ++
    ops.filter isHostAccess ++ (ops.filter fun o => o.op == eventWord .sampleStrobe) ++
    (ops.filter fun o => o.op == eventWord .sinkDrained) ++ (ops.filter fun o => o.op == eventWord .timeTick) ++
    ops.filter isNoOperation := by
  simp only [← filter_rank_event, ← filter_rank_hostAccess, ← filter_rank_noOperation, List.append_assoc]
  have ranks : List.range 7 = [0, 1, 2, 3, 4, 5, 6] := rfl
  simp only [serialise, ranks, List.flatMap_cons, List.flatMap_nil, List.append_nil, eventPlace]

/-- Settles O60: the ranks are the kinds of R411 in their order, and every arrival has one rank of the seven. -/
theorem simultaneousArrivalsAreSerialised : Obligations.SimultaneousArrivalsAreSerialised := by
  unfold Obligations.SimultaneousArrivalsAreSerialised
  exact fun ops => ⟨serialise_eq ops, serialise_perm ops, fun s => rfl⟩

end Sys2Proof.Proofs
end

section
/-! 70_reset_and_hazards R440, R441: the values RESET leaves, what the registers read afterwards, and the new buffer draw. -/

namespace Sys2Proof.Proofs
open Sys2Proof Sys2Proof.Machine

/-! ## What RESET leaves -/

theorem exec_evReset (s : State) : exec .evReset s = .next (resetBlock Config.block s) := rfl

theorem resetBlock_busy (P : Params) (s : State) : (resetBlock P s).busy = false := rfl

theorem resetBlock_pttPin (P : Params) (s : State) : (resetBlock P s).pttPin = false := rfl

theorem resetBlock_irq (P : Params) (s : State) : (resetBlock P s).irq = false := rfl

theorem resetBlock_ctrlWord (P : Params) (s : State) : (resetBlock P s).ctrlWord = 0x00000001 := by
  simp [State.ctrlWord, bitAt]

/-- READY, the framer idle, the mark tone and no error all have the code 0. -/
theorem resetBlock_statusWord (P : Params) (s : State) : (resetBlock P s).statusWord = 0 := by
  simp [State.statusWord, bitAt, resetBlock_busy, resetBlock_pttPin, SeqState.code, EncState.code, Tone.code, ErrCode.code]

theorem resetBlock_eventsWord (P : Params) (s : State) : (resetBlock P s).eventsWord = 0 := by
  simp [State.eventsWord, bitAt]

theorem resetBlock_phaseWord (P : Params) (s : State) : (resetBlock P s).phaseWord = P.dmark.setWidth 32 <<< 16 := by
  simp [State.phaseWord]

theorem resetBlock_timersWord (P : Params) (s : State) : (resetBlock P s).timersWord = 0 := by
  simp [State.timersWord]

theorem resetBlock_encPosWord (P : Params) (s : State) : (resetBlock P s).encPosWord = 0 := by
  simp [State.encPosWord]

/-- RESET leaves no entry written, so that every entry holds the free value of the new draw. -/
theorem resetBlock_bufByte (P : Params) (s : State) (k : Nat) :
    (resetBlock P s).bufByte k = Config.freeByte (s.draws + 1) k := rfl

/-! ## The registers after RESET (R441) -/

/-- A register whose value is `w` answers `w`. -/
theorem read_answers {i : Instr} {s : State} {v w : Word} (read : exec i s = .next (respond (.rdata v) s))
    (value : v = w) : exec i s = .next { s with response := .rdata w } := value ▸ read

/-- Settles O38: the fields are the model's `resetBlock` lemmas; each read answers its register's word, and the word is the
one listed. -/
theorem resetRestoresEveryRegister : Obligations.ResetRestoresEveryRegister := by
  unfold Obligations.ResetRestoresEveryRegister
  refine fun s => ⟨resetBlock Config.block s, exec_evReset s,
    -- the sequencer, its counters and latches
    rfl, rfl, rfl, rfl,
    rfl, rfl, rfl, rfl, rfl, rfl,
    -- the framer, the CRC, the tone and the sample counters
    rfl, rfl, rfl, rfl, rfl,
    rfl, rfl, rfl, rfl, rfl,
    rfl, rfl,
    -- the register file
    rfl, rfl, rfl, rfl,
    rfl, rfl, rfl, rfl,
    rfl, rfl, rfl, rfl, rfl,
    resetBlock_pttPin _ s, resetBlock_irq _ s, ?_⟩
  simp only [List.cons_append, List.nil_append, List.forall_mem_cons, List.not_mem_nil, false_imp_iff, implies_true, and_true]
  exact ⟨read_answers rfl (resetBlock_ctrlWord _ s), read_answers rfl (resetBlock_statusWord _ s),
    read_answers rfl (resetBlock_eventsWord _ s), rfl, rfl, rfl, rfl, rfl, rfl, rfl, rfl, rfl,
    read_answers rfl (resetBlock_phaseWord _ s), rfl, rfl, rfl,
    read_answers rfl (resetBlock_timersWord _ s), read_answers rfl (resetBlock_encPosWord _ s)⟩

/-! ## The frame buffer after RESET (R440, 10_state R52) -/

/-- Settles O39: RESET leaves no entry written, and the read of an unwritten entry answers its free value. -/
theorem resetDrawsTheBufferAnew : Obligations.ResetDrawsTheBufferAnew := by
  unfold Obligations.ResetDrawsTheBufferAnew
  refine fun s => ⟨resetBlock Config.block s, exec_evReset s, resetBlock_inbox _ s, resetBlock_response _ s,
    fun k inside => ⟨_, rfl, ?_⟩⟩
  rw [← resetBlock_bufByte Config.block s, BitVec.ofNat_toNat]
  exact exec_rdBuf inside _

end Sys2Proof.Proofs
end
